-- ==== Sys2Proof/Word.lean ====
section
/-! DEFINITION. The word types of the core: a register word, a register address and the register file. -/

namespace Sys2Proof

/-- A word of the core (R7, R31): 8 bits hold a word of either variant.
A V4 word has only bits 3 to 0; that bits 7 to 4 of a V4 word are 0 is the range rule R15, an invariant of the model. -/
abbrev Word := BitVec 8

/-- A register address, the value of the pins A[3:0] or B[3:0] (R10, R32). -/
abbrev RegAddr := BitVec 4

/-- The register file: 16 words in both variants (R10, R31). -/
abbrev RegFile := Vector Word 16

end Sys2Proof
end

