-- ==== Sys2Proof/Config.lean ====
section
/-! DEFINITION. What construction fixes (R7 to R9), the two behaviour parameters of
spec/93_implementation_defined.md (I3, I4), and the two constants the spec leaves OPEN (R12, R13). -/

namespace Sys2Proof

/-- The two variants of the chip (R1, R9): V4 has a 4-bit word, V8 an 8-bit word, the M pins, the boundary pins and the
shift-link network. -/
inductive Variant
  | v4
  | v8
  deriving DecidableEq, Repr

/-- W (R7). -/
def Variant.width : Variant → Nat
  | .v4 => 4
  | .v8 => 8

/-- MOD = 2^W (R7). -/
def Variant.modulus (v : Variant) : Nat := 2 ^ v.width

/-- MASK = MOD - 1 (R7). -/
def Variant.mask (v : Variant) : Nat := v.modulus - 1

/-- HALF = MOD / 2 (R7). -/
def Variant.half (v : Variant) : Nat := v.modulus / 2

/-- OVR_LOGIC_MODE (R136, I4): the overflow flag of functions 3 to 7. -/
inductive OvrLogicMode
  /-- The formula of R136, the spec's value. -/
  | formula
  /-- The alternative `false`: OVR is false for functions 3 to 7. -/
  | forcedFalse
  deriving DecidableEq, Repr

/-- V4_SHIFT_DST (R179, I3): what destination codes 4 to 7 do on V4. -/
inductive V4ShiftDst
  /-- No state change, Y = F: the spec's value. -/
  | nopF
  /-- No state change, Y = 0. -/
  | nopZero
  /-- RF[B] takes F, Y = F. -/
  | writeF
  deriving DecidableEq, Repr

/-- What construction fixes for the lifetime of an instance (R9, R136, R179). -/
structure Config where
  variant : Variant
  ovrLogicMode : OvrLogicMode
  v4ShiftDst : V4ShiftDst
  deriving DecidableEq, Repr

/-- A variant with the spec's own values of the two behaviour parameters (R136, R179). -/
def Config.ofVariant (v : Variant) : Config := ⟨v, .formula, .nopF⟩

/-- An electrical level of a pin. -/
inductive Level
  | high
  | low
  deriving DecidableEq, Repr, Inhabited

/-- OE_ASSERTED_LEVEL (R13, I1), left OPEN by the spec (D3): a constant with no body. Log entry 8. -/
opaque Config.oeAssertedLevel : Level

/-- T_PD (R12, I2), left OPEN by the spec (D15): a constant with no body. No rule depends on it. Log entry 9. -/
opaque Config.propagationDelay : Nat

end Sys2Proof
end

