-- ==== Sys2Proof/Syntax.lean ====
section
/-! DEFINITION. The micro-instruction as syntax: its four fields, its operands, and `Instr`, one constructor per row of the
opcode table (R84). -/

namespace Sys2Proof

/-- The source-select field I[2:0] (R84, R111 to R118). -/
inductive Src
  | aq
  | ab
  | zq
  | zb
  | za
  | da
  | dq
  | dz
  deriving DecidableEq, Repr

/-- The function-select field I[5:3] (R84, R137 to R144). -/
inductive Fn
  | add
  | subr
  | subs
  | or
  | and
  | notrs
  | exor
  | exnor
  deriving DecidableEq, Repr

/-- The destination-select field I[8:6] (R84, R171 to R178). -/
inductive Dst
  | qreg
  | nop
  | rama
  | ramf
  | srbq
  | srb
  | slbq
  | slb
  deriving DecidableEq, Repr

/-- The link-mode field M[1:0] of V8 (R84, R204 to R207). -/
inductive Link
  | lnone
  | lrot
  | lxfeed
  | loneway
  deriving DecidableEq, Repr

/-- The operands a micro-instruction takes from the other input pins (R82). -/
structure Operands where
  a : RegAddr
  b : RegAddr
  d : Word
  c0 : Bool
  deriving DecidableEq, Repr

/-- A whole micro-instruction with its operands: one line of the syntax of R87. -/
structure Micro where
  src : Src
  fn : Fn
  dst : Dst
  link : Link
  ops : Operands
  deriving DecidableEq, Repr

/-- The four formats of the opcode table's rows (R84). -/
inductive Format
  | src
  | fn
  | dst
  | link
  deriving DecidableEq, Repr

/-- A micro-instruction NAMED BY ONE OF THE ROWS IT MATCHES, one constructor per row of spec/opcode_table.json.
The constructor is the row; its arguments are the micro-instruction's other fields and the operands, so that every term is
one whole executable micro-instruction (R84: a meaning is the composition of one row of each format). Log entry 5. -/
inductive Instr
  /-- R111. -/
  | aq (fn : Fn) (dst : Dst) (m : Link) (x : Operands)
  /-- R112. -/
  | ab (fn : Fn) (dst : Dst) (m : Link) (x : Operands)
  /-- R113. -/
  | zq (fn : Fn) (dst : Dst) (m : Link) (x : Operands)
  /-- R114. -/
  | zb (fn : Fn) (dst : Dst) (m : Link) (x : Operands)
  /-- R115. -/
  | za (fn : Fn) (dst : Dst) (m : Link) (x : Operands)
  /-- R116. -/
  | da (fn : Fn) (dst : Dst) (m : Link) (x : Operands)
  /-- R117. -/
  | dq (fn : Fn) (dst : Dst) (m : Link) (x : Operands)
  /-- R118. -/
  | dz (fn : Fn) (dst : Dst) (m : Link) (x : Operands)
  /-- R137. -/
  | add (src : Src) (dst : Dst) (m : Link) (x : Operands)
  /-- R138. -/
  | subr (src : Src) (dst : Dst) (m : Link) (x : Operands)
  /-- R139. -/
  | subs (src : Src) (dst : Dst) (m : Link) (x : Operands)
  /-- R140. -/
  | or (src : Src) (dst : Dst) (m : Link) (x : Operands)
  /-- R141. -/
  | and (src : Src) (dst : Dst) (m : Link) (x : Operands)
  /-- R142. -/
  | notrs (src : Src) (dst : Dst) (m : Link) (x : Operands)
  /-- R143. -/
  | exor (src : Src) (dst : Dst) (m : Link) (x : Operands)
  /-- R144. -/
  | exnor (src : Src) (dst : Dst) (m : Link) (x : Operands)
  /-- R171. -/
  | qreg (src : Src) (fn : Fn) (m : Link) (x : Operands)
  /-- R172. -/
  | nop (src : Src) (fn : Fn) (m : Link) (x : Operands)
  /-- R173. -/
  | rama (src : Src) (fn : Fn) (m : Link) (x : Operands)
  /-- R174. -/
  | ramf (src : Src) (fn : Fn) (m : Link) (x : Operands)
  /-- R175. -/
  | srbq (src : Src) (fn : Fn) (m : Link) (x : Operands)
  /-- R176. -/
  | srb (src : Src) (fn : Fn) (m : Link) (x : Operands)
  /-- R177. -/
  | slbq (src : Src) (fn : Fn) (m : Link) (x : Operands)
  /-- R178. -/
  | slb (src : Src) (fn : Fn) (m : Link) (x : Operands)
  /-- R204. -/
  | lnone (src : Src) (fn : Fn) (dst : Dst) (x : Operands)
  /-- R205. -/
  | lrot (src : Src) (fn : Fn) (dst : Dst) (x : Operands)
  /-- R206. -/
  | lxfeed (src : Src) (fn : Fn) (dst : Dst) (x : Operands)
  /-- R207. -/
  | loneway (src : Src) (fn : Fn) (dst : Dst) (x : Operands)
  deriving DecidableEq, Repr

/-- The format of the row that names the instruction. -/
def Instr.format : Instr → Format
  | .aq _ _ _ _ => .src
  | .ab _ _ _ _ => .src
  | .zq _ _ _ _ => .src
  | .zb _ _ _ _ => .src
  | .za _ _ _ _ => .src
  | .da _ _ _ _ => .src
  | .dq _ _ _ _ => .src
  | .dz _ _ _ _ => .src
  | .add _ _ _ _ => .fn
  | .subr _ _ _ _ => .fn
  | .subs _ _ _ _ => .fn
  | .or _ _ _ _ => .fn
  | .and _ _ _ _ => .fn
  | .notrs _ _ _ _ => .fn
  | .exor _ _ _ _ => .fn
  | .exnor _ _ _ _ => .fn
  | .qreg _ _ _ _ => .dst
  | .nop _ _ _ _ => .dst
  | .rama _ _ _ _ => .dst
  | .ramf _ _ _ _ => .dst
  | .srbq _ _ _ _ => .dst
  | .srb _ _ _ _ => .dst
  | .slbq _ _ _ _ => .dst
  | .slb _ _ _ _ => .dst
  | .lnone _ _ _ _ => .link
  | .lrot _ _ _ _ => .link
  | .lxfeed _ _ _ _ => .link
  | .loneway _ _ _ _ => .link

/-- The whole micro-instruction, whichever row names it. -/
def Instr.micro : Instr → Micro
  | .aq fn dst m x => ⟨.aq, fn, dst, m, x⟩
  | .ab fn dst m x => ⟨.ab, fn, dst, m, x⟩
  | .zq fn dst m x => ⟨.zq, fn, dst, m, x⟩
  | .zb fn dst m x => ⟨.zb, fn, dst, m, x⟩
  | .za fn dst m x => ⟨.za, fn, dst, m, x⟩
  | .da fn dst m x => ⟨.da, fn, dst, m, x⟩
  | .dq fn dst m x => ⟨.dq, fn, dst, m, x⟩
  | .dz fn dst m x => ⟨.dz, fn, dst, m, x⟩
  | .add src dst m x => ⟨src, .add, dst, m, x⟩
  | .subr src dst m x => ⟨src, .subr, dst, m, x⟩
  | .subs src dst m x => ⟨src, .subs, dst, m, x⟩
  | .or src dst m x => ⟨src, .or, dst, m, x⟩
  | .and src dst m x => ⟨src, .and, dst, m, x⟩
  | .notrs src dst m x => ⟨src, .notrs, dst, m, x⟩
  | .exor src dst m x => ⟨src, .exor, dst, m, x⟩
  | .exnor src dst m x => ⟨src, .exnor, dst, m, x⟩
  | .qreg src fn m x => ⟨src, fn, .qreg, m, x⟩
  | .nop src fn m x => ⟨src, fn, .nop, m, x⟩
  | .rama src fn m x => ⟨src, fn, .rama, m, x⟩
  | .ramf src fn m x => ⟨src, fn, .ramf, m, x⟩
  | .srbq src fn m x => ⟨src, fn, .srbq, m, x⟩
  | .srb src fn m x => ⟨src, fn, .srb, m, x⟩
  | .slbq src fn m x => ⟨src, fn, .slbq, m, x⟩
  | .slb src fn m x => ⟨src, fn, .slb, m, x⟩
  | .lnone src fn dst x => ⟨src, fn, dst, .lnone, x⟩
  | .lrot src fn dst x => ⟨src, fn, dst, .lrot, x⟩
  | .lxfeed src fn dst x => ⟨src, fn, dst, .lxfeed, x⟩
  | .loneway src fn dst x => ⟨src, fn, dst, .loneway, x⟩

/-- The input pin groups that carry a micro-instruction (R41, R80, R81, R82), each as the word of R63.
V4 has no M pins and only D[3:0]; the decoder does not read what the variant does not have. -/
structure Pins where
  i : BitVec 9
  a : RegAddr
  b : RegAddr
  d : Word
  c0 : Bool
  m : BitVec 2
  deriving DecidableEq, Repr

end Sys2Proof
end

