-- ==== Sys2Proof/WellFormed.lean ====
section
/-! DEFINITION. Which instructions a variant has: the checks are on the pins V4 does not have (R9, R81, R87). -/

namespace Sys2Proof

/-- The data word has width W (R15, R82). -/
def dataFits (v : Variant) (i : Instr) : Bool := i.micro.ops.d.toNat ≤ v.mask

/-- V4 text names no link mode: "M= is refused on V4", and an omitted operand is 0 (R81, R87). -/
def linkFieldExists (v : Variant) (i : Instr) : Bool := v = .v8 || i.micro.link = .lnone

/-- The M2 rows are rows of V8 alone (R81, R84). -/
def rowExists (v : Variant) (i : Instr) : Bool := v = .v8 || i.format ≠ .link

/-- The instruction is one of the variant. -/
abbrev WellFormed (v : Variant) (i : Instr) : Prop :=
  (dataFits v i && linkFieldExists v i && rowExists v i) = true

end Sys2Proof
end

