-- ==== Sys2Proof/Decode.lean ====
section
/-! DEFINITION. The decoder and the encoder (spec/30_encoding.md): total on every pin value, rejecting by name. -/

namespace Sys2Proof

/-- Why the decoder rejects a reading. -/
inductive DecodeReject
  /-- The link-mode row of a V4 micro-instruction was asked for: V4 has no M pins (R81, R9). -/
  | noLinkPins
  /-- A table word has bits above I[8]: no such pins exist (R80, R85). -/
  | fieldTooWide
  deriving DecidableEq, Repr

/-- The src field's bits, as the tables of R84 give them. -/
def srcCode : Src → BitVec 3
  | .aq => 0b000#3
  | .ab => 0b001#3
  | .zq => 0b010#3
  | .zb => 0b011#3
  | .za => 0b100#3
  | .da => 0b101#3
  | .dq => 0b110#3
  | .dz => 0b111#3

/-- The src code of a field value: every value names a row (R83). -/
def srcOfCode (c : BitVec 3) : Src :=
  match c.getLsbD 2, c.getLsbD 1, c.getLsbD 0 with
  | false, false, false => .aq
  | false, false, true => .ab
  | false, true, false => .zq
  | false, true, true => .zb
  | true, false, false => .za
  | true, false, true => .da
  | true, true, false => .dq
  | true, true, true => .dz

/-- The fn field's bits, as the tables of R84 give them. -/
def fnCode : Fn → BitVec 3
  | .add => 0b000#3
  | .subr => 0b001#3
  | .subs => 0b010#3
  | .or => 0b011#3
  | .and => 0b100#3
  | .notrs => 0b101#3
  | .exor => 0b110#3
  | .exnor => 0b111#3

/-- The fn code of a field value: every value names a row (R83). -/
def fnOfCode (c : BitVec 3) : Fn :=
  match c.getLsbD 2, c.getLsbD 1, c.getLsbD 0 with
  | false, false, false => .add
  | false, false, true => .subr
  | false, true, false => .subs
  | false, true, true => .or
  | true, false, false => .and
  | true, false, true => .notrs
  | true, true, false => .exor
  | true, true, true => .exnor

/-- The dst field's bits, as the tables of R84 give them. -/
def dstCode : Dst → BitVec 3
  | .qreg => 0b000#3
  | .nop => 0b001#3
  | .rama => 0b010#3
  | .ramf => 0b011#3
  | .srbq => 0b100#3
  | .srb => 0b101#3
  | .slbq => 0b110#3
  | .slb => 0b111#3

/-- The dst code of a field value: every value names a row (R83). -/
def dstOfCode (c : BitVec 3) : Dst :=
  match c.getLsbD 2, c.getLsbD 1, c.getLsbD 0 with
  | false, false, false => .qreg
  | false, false, true => .nop
  | false, true, false => .rama
  | false, true, true => .ramf
  | true, false, false => .srbq
  | true, false, true => .srb
  | true, true, false => .slbq
  | true, true, true => .slb

/-- The link field's bits, as the tables of R84 give them. -/
def linkCode : Link → BitVec 2
  | .lnone => 0b00#2
  | .lrot => 0b01#2
  | .lxfeed => 0b10#2
  | .loneway => 0b11#2

/-- The link code of a field value: every value names a row (R83). -/
def linkOfCode (c : BitVec 2) : Link :=
  match c.getLsbD 1, c.getLsbD 0 with
  | false, false => .lnone
  | false, true => .lrot
  | true, false => .lxfeed
  | true, true => .loneway

/-- src = I[2:0] (R80). -/
def srcField (i : BitVec 9) : BitVec 3 := i.extractLsb' 0 3

/-- fn = I[5:3] (R80). -/
def fnField (i : BitVec 9) : BitVec 3 := i.extractLsb' 3 3

/-- dst = I[8:6] (R80). -/
def dstField (i : BitVec 9) : BitVec 3 := i.extractLsb' 6 3

/-- I = dst, fn, src from the top bit down (R80). -/
def packFields (dst fn src : BitVec 3) : BitVec 9 := dst ++ fn ++ src

/-- The data word on the D pins the variant has: D[3:0] on V4, D[7:0] on V8 (R41, R82). Log entry 13. -/
def dataOnPins : Variant → Word → Word
  | .v4, d => (d.setWidth 4).setWidth 8
  | .v8, d => d

/-- The link mode on the M pins; V4 has none, and its micro-instruction names no mode (R81). Log entry 13. -/
def linkOnPins : Variant → BitVec 2 → Link
  | .v4, _ => .lnone
  | .v8, m => linkOfCode m

/-- The micro-instruction on the pins (R80 to R83). -/
def microOfPins (v : Variant) (p : Pins) : Micro where
  src := srcOfCode (srcField p.i)
  fn := fnOfCode (fnField p.i)
  dst := dstOfCode (dstField p.i)
  link := linkOnPins v p.m
  ops := { a := p.a, b := p.b, d := dataOnPins v p.d, c0 := p.c0 }

/-- The micro-instruction named by its src row. -/
def srcReading (m : Micro) : Instr :=
  match m.src with
  | .aq => .aq m.fn m.dst m.link m.ops
  | .ab => .ab m.fn m.dst m.link m.ops
  | .zq => .zq m.fn m.dst m.link m.ops
  | .zb => .zb m.fn m.dst m.link m.ops
  | .za => .za m.fn m.dst m.link m.ops
  | .da => .da m.fn m.dst m.link m.ops
  | .dq => .dq m.fn m.dst m.link m.ops
  | .dz => .dz m.fn m.dst m.link m.ops

/-- The micro-instruction named by its fn row. -/
def fnReading (m : Micro) : Instr :=
  match m.fn with
  | .add => .add m.src m.dst m.link m.ops
  | .subr => .subr m.src m.dst m.link m.ops
  | .subs => .subs m.src m.dst m.link m.ops
  | .or => .or m.src m.dst m.link m.ops
  | .and => .and m.src m.dst m.link m.ops
  | .notrs => .notrs m.src m.dst m.link m.ops
  | .exor => .exor m.src m.dst m.link m.ops
  | .exnor => .exnor m.src m.dst m.link m.ops

/-- The micro-instruction named by its dst row. -/
def dstReading (m : Micro) : Instr :=
  match m.dst with
  | .qreg => .qreg m.src m.fn m.link m.ops
  | .nop => .nop m.src m.fn m.link m.ops
  | .rama => .rama m.src m.fn m.link m.ops
  | .ramf => .ramf m.src m.fn m.link m.ops
  | .srbq => .srbq m.src m.fn m.link m.ops
  | .srb => .srb m.src m.fn m.link m.ops
  | .slbq => .slbq m.src m.fn m.link m.ops
  | .slb => .slb m.src m.fn m.link m.ops

/-- The micro-instruction named by its link row. -/
def linkReading (m : Micro) : Instr :=
  match m.link with
  | .lnone => .lnone m.src m.fn m.dst m.ops
  | .lrot => .lrot m.src m.fn m.dst m.ops
  | .lxfeed => .lxfeed m.src m.fn m.dst m.ops
  | .loneway => .loneway m.src m.fn m.dst m.ops

/-- The micro-instruction named by its row of the given format (R84: a decoder selects one row of each format). -/
def reading : Format → Micro → Instr
  | .src, m => srcReading m
  | .fn, m => fnReading m
  | .dst, m => dstReading m
  | .link, m => linkReading m

/-- The format whose row names a micro-instruction where none is asked for: that of its highest field that is not 0, the link
mode standing above dst. Which row names it changes nothing of what it does. Log entry 5. -/
def namingFormat (m : Micro) : Format :=
  if m.link ≠ .lnone then .link
  else if m.dst ≠ .qreg then .dst
  else if m.fn ≠ .add then .fn
  else .src

/-- The instruction on the pins, named by its row of the given format. Only the link-mode row of V4 does not exist. -/
def decodeAs (f : Format) (v : Variant) (p : Pins) : Except DecodeReject Instr :=
  if f = .link ∧ v = .v4 then .error .noLinkPins else .ok (reading f (microOfPins v p))

/-- The instruction on the pins: every pin value is one (R83). -/
def decode (v : Variant) (p : Pins) : Instr :=
  reading (namingFormat (microOfPins v p)) (microOfPins v p)

/-- The pins an instruction stands on (R80 to R82). -/
def encode (i : Instr) : Pins where
  i := packFields (dstCode i.micro.dst) (fnCode i.micro.fn) (srcCode i.micro.src)
  a := i.micro.ops.a
  b := i.micro.ops.b
  d := i.micro.ops.d
  c0 := i.micro.ops.c0
  m := linkCode i.micro.link

/-- Whether a table word is one of the 2-bit M2 rows, which fill one byte; an I9 row fills two. Log entry 11. -/
def isLinkWord (nbits w : Nat) : Bool := nbits ≤ 8 && w < 4

/-- The pins that carry a table word: its bits on M for an M2 row, on I for an I9 row, every other pin 0. Log entry 11. -/
def tablePins (nbits w : Nat) : Pins where
  i := if isLinkWord nbits w then 0 else BitVec.ofNat 9 w
  a := 0
  b := 0
  d := 0
  c0 := false
  m := if isLinkWord nbits w then BitVec.ofNat 2 w else 0

/-- The instruction of a table word, or the reason there is none. It is read as V8 reads it, the variant of the reset state. -/
def decodeTable (nbits w : Nat) : Except DecodeReject Instr :=
  if isLinkWord nbits w then decodeAs .link .v8 (tablePins nbits w)
  else if w < 512 then .ok (decode .v8 (tablePins nbits w))
  else .error .fieldTooWide

/-- The instruction the decoder reads from an instruction whose bits are w, numbered as the opcode table numbers them. -/
def decodeTableWord (nbits w : Nat) : Option Instr := (decodeTable nbits w).toOption

end Sys2Proof
end

