-- ==== Sys2Proof/Machine/Bits.lean ====
section
/-! DEFINITION. The notation primitives of R16 on words, for either variant. -/

namespace Sys2Proof.Machine

/-- MASK as a word (R7). -/
def maskWord (v : Variant) : Word := BitVec.ofNat 8 v.mask

/-- `~x`, the W-bit complement MASK - x (R16). -/
def compl (v : Variant) (x : Word) : Word := ~~~x &&& maskWord v

/-- `raw mod MOD`, the non-negative residue (R16, R131). -/
def reduce (v : Variant) (raw : Int) : Word := BitVec.ofNat 8 (raw % (v.modulus : Int)).toNat

/-- `setbit(x, i, b)` (R16). -/
def setBit (x : Word) (i : Nat) (b : Bool) : Word :=
  if b then x ||| BitVec.twoPow 8 i else x &&& ~~~(BitVec.twoPow 8 i)

/-- `x >> 1`, the logical right shift (R16). -/
def shiftRight (x : Word) : Word := x >>> 1

/-- `(x << 1) & MASK` (R16) for the one variant that shifts: V8, where MASK is the whole word (R200). -/
def shiftLeft (x : Word) : Word := x <<< 1

end Sys2Proof.Machine
end

