-- ==== Sys2Proof/Machine/Signals.lean ====
section
/-! DEFINITION. The values that pass between the components of one compute cycle (R242). They are wires, not state (R30). -/

namespace Sys2Proof.Machine

/-- The ALU's operand pair (R110). -/
structure OperandPair where
  r : Word
  s : Word
  deriving DecidableEq, Repr

/-- The ALU's outputs (R130). -/
structure AluOut where
  f : Word
  c4 : Bool
  f3 : Bool
  ovr : Bool
  z : Bool
  deriving DecidableEq, Repr

/-- The register and the accumulator after a shift step (R211). -/
structure Shifted where
  r : Word
  q : Word
  deriving DecidableEq, Repr

/-- The boundary pins' values (R213). -/
structure Boundary where
  rl : Bool
  rm : Bool
  ql : Bool
  qm : Bool
  deriving DecidableEq, Repr

/-- The router's outputs (R170): the new registers, the bus value, and the boundary values where the cycle drives them. -/
structure Routed where
  rf : RegFile
  q : Word
  y : Word
  boundary : Option Boundary
  deriving DecidableEq, Repr

/-- A link mode's rule: from the direction (`right`), whether the accumulator shifts (`shiftQ`), and the pre-cycle register and
accumulator, the shifted ones (R201, R211). -/
abbrev LinkRule := Bool → Bool → Word → Word → Shifted

end Sys2Proof.Machine
end

