-- ==== Sys2Proof/Machine/Flags.lean ====
section
/-! DEFINITION. The carry-lookahead network and the four flags (spec/41_alu.md R132 to R136). -/

namespace Sys2Proof.Machine

/-- c[i] of the lookahead chain over the chain operands and the forced carry-in, with P = Rc | Sc and G = Rc & Sc (R132). -/
def carryAt (rc sc : Word) (cin : Bool) : Nat → Bool
  | 0 => (rc &&& sc).getLsbD 0 || ((rc ||| sc).getLsbD 0 && cin)
  | i + 1 => (rc &&& sc).getLsbD (i + 1) || ((rc ||| sc).getLsbD (i + 1) && carryAt rc sc cin i)

/-- C4 = c[W-1] (R132). -/
def carryOut (v : Variant) (rc sc : Word) (cin : Bool) : Bool := carryAt rc sc cin (v.width - 1)

/-- F3 (R134). -/
def signFlag (v : Variant) (f : Word) : Bool := v.half ≤ f.toNat

/-- Z (R135). -/
def zeroFlag (f : Word) : Bool := f = 0

/-- The overflow formula of the functions that do not subtract (R136). -/
def overflowFormula (v : Variant) (r s f : Word) : Bool :=
  (r.toNat < v.half && s.toNat < v.half && v.half ≤ f.toNat) ||
    (v.half ≤ r.toNat && v.half ≤ s.toNat && f.toNat < v.half)

/-- OVR of the functions 3 to 7 under OVR_LOGIC_MODE (R136). Log entry 7. -/
def logicOverflow (c : Config) (r s f : Word) : Bool :=
  match c.ovrLogicMode with
  | .formula => overflowFormula c.variant r s f
  | .forcedFalse => false

/-- The ALU's outputs from the result, the carry and the overflow: F3 and Z follow the result for every function (R134, R135). -/
def aluOut (v : Variant) (f : Word) (c4 ovr : Bool) : AluOut :=
  { f := f, c4 := c4, f3 := signFlag v f, ovr := ovr, z := zeroFlag f }

end Sys2Proof.Machine
end

