-- ==== Sys2Proof/Machine/Alu.lean ====
section
/-! DEFINITION. The eight functions of the ALU (spec/41_alu.md R137 to R144). C0 enters the raw result alone, never the chain (R133). -/

namespace Sys2Proof.Machine

/-- R137: raw = R + S + C0; the chain runs on R and S with carry-in 0. -/
def aluADD (c : Config) (p : OperandPair) (c0 : Bool) : AluOut :=
  let f := reduce c.variant ((p.r.toNat : Int) + p.s.toNat + c0.toNat)
  aluOut c.variant f (carryOut c.variant p.r p.s false) (overflowFormula c.variant p.r p.s f)

/-- R138: raw = S - R - 1 + C0; the chain runs on ~R and S with carry-in 1; OVR is forced false. -/
def aluSUBR (c : Config) (p : OperandPair) (c0 : Bool) : AluOut :=
  let f := reduce c.variant ((p.s.toNat : Int) - p.r.toNat - 1 + c0.toNat)
  aluOut c.variant f (carryOut c.variant (compl c.variant p.r) p.s true) false

/-- R139: raw = R - S - 1 + C0; the chain runs on R and ~S with carry-in 1; OVR is forced false. -/
def aluSUBS (c : Config) (p : OperandPair) (c0 : Bool) : AluOut :=
  let f := reduce c.variant ((p.r.toNat : Int) - p.s.toNat - 1 + c0.toNat)
  aluOut c.variant f (carryOut c.variant p.r (compl c.variant p.s) true) false

/-- A logic function (R140 to R144): its result modulo MOD (R131), the chain on R and S with carry-in 0, OVR by R136. -/
def logicOut (c : Config) (p : OperandPair) (raw : Word) : AluOut :=
  let f := reduce c.variant raw.toNat
  aluOut c.variant f (carryOut c.variant p.r p.s false) (logicOverflow c p.r p.s f)

/-- R140. -/
def aluOR (c : Config) (p : OperandPair) (_c0 : Bool) : AluOut := logicOut c p (p.r ||| p.s)

/-- R141. -/
def aluAND (c : Config) (p : OperandPair) (_c0 : Bool) : AluOut := logicOut c p (p.r &&& p.s)

/-- R142: R is complemented for the result, not for the chain. -/
def aluNOTRS (c : Config) (p : OperandPair) (_c0 : Bool) : AluOut := logicOut c p (compl c.variant p.r &&& p.s)

/-- R143. -/
def aluEXOR (c : Config) (p : OperandPair) (_c0 : Bool) : AluOut := logicOut c p (p.r ^^^ p.s)

/-- R144. -/
def aluEXNOR (c : Config) (p : OperandPair) (_c0 : Bool) : AluOut := logicOut c p (compl c.variant (p.r ^^^ p.s))

/-- The ALU (R130). -/
def alu : Fn → Config → OperandPair → Bool → AluOut
  | .add => aluADD
  | .subr => aluSUBR
  | .subs => aluSUBS
  | .or => aluOR
  | .and => aluAND
  | .notrs => aluNOTRS
  | .exor => aluEXOR
  | .exnor => aluEXNOR

end Sys2Proof.Machine
end

