-- ==== Sys2Proof/Machine/State.lean ====
section
/-! DEFINITION. The state of one instance (spec/10_state.md), its input, and the reasons a step or a construction can stop. -/

namespace Sys2Proof.Machine

/-- The output latches (R38): the last value driven on each output pin. `none` is the spec's "unknown", the value of a latch
that nothing has driven since construction or the last clear; it is a value of the latch, not a missing reset value. Log entry 4. -/
structure Outputs where
  y : Option Word
  z : Option Bool
  f3 : Option Bool
  ovr : Option Bool
  c4 : Option Bool
  /-- RL, RM, QL, QM: pins of V8 alone, so on V4 always unknown (R38, R213). -/
  rl : Option Bool
  rm : Option Bool
  ql : Option Bool
  qm : Option Bool
  deriving DecidableEq, Repr

/-- Every latch unknown (R43, R241). -/
def Outputs.unknown : Outputs := ⟨none, none, none, none, none, none, none, none, none⟩

/-- The inputs of one invocation (R41): OE asserted, a rising edge on CLK, and the pins of the micro-instruction. -/
structure Invocation where
  clr : Bool
  rising : Bool
  pins : Pins
  deriving DecidableEq, Repr

/-- The state of one instance (R30): the register file, the accumulator and the output latches, beside what construction fixed.
`pending` is the MODEL's own: the invocations the host has still to make, in order, since the spec passes the inputs as
parameters of a step (R41, R240). Log entries 1 and 2. -/
structure State where
  cfg : Config
  rf : RegFile
  q : Word
  out : Outputs
  pending : List Invocation
  deriving DecidableEq, Repr

/-- The core raises no exception, for any input (R270): there is no fault to name. -/
inductive Fault
  deriving DecidableEq, Repr

/-- The refusals. None of them is an answer of a step: R17, "any refusal happens only at construction". -/
inductive Refusal
  /-- Raised by an arm of `exec` whose instruction has no meaning yet; safe. No arm raises it. -/
  | notModelled (mnemonic : String)
  /-- Raised by `construct` for a word width other than 4 and 8 (R8, R271); safe: no instance exists to step. -/
  | unsupportedWidth (w : Nat)
  /-- Raised by `construct` for width 4 with the shift-link feature or width 8 without it (R9); safe: no instance exists. -/
  | featureMismatch (w : Nat)
  deriving DecidableEq, Repr

/-- An instance right after construction (R43, R300): every register and Q are 0, every output latch is unknown. -/
def State.construction (c : Config) : State where
  cfg := c
  rf := Vector.replicate 16 0
  q := 0
  out := .unknown
  pending := []

/-- The state after reset: a V8 instance right after construction, with the spec's values of the two behaviour parameters.
That it is V8 is a DESIGN CHOICE (log entry 1); V4 instances are `State.construction (Config.ofVariant .v4)`. -/
def State.reset : State := .construction (Config.ofVariant .v8)

end Sys2Proof.Machine
end

