-- ==== Sys2Proof/Machine/Ops.lean ====
section
/-! DEFINITION. The named operations on the state: registers, accumulator, output latches, the clear step, construction.
The core takes no exception and has no memory (R270, R275, R60), so neither has an operation here. -/

namespace Sys2Proof.Machine

/-- `RF[a]` (R16, R32). -/
def readReg (rf : RegFile) (a : RegAddr) : Word := rf[a.toNat]'(a.isLt)

/-- `RF[b] <- w` (R16, R32). -/
def writeReg (rf : RegFile) (b : RegAddr) (w : Word) : RegFile := rf.set b.toNat w b.isLt

/-- Register a of a state. -/
def State.reg (s : State) (a : RegAddr) : Word := readReg s.rf a

/-- The state with register b written. -/
def State.setReg (s : State) (b : RegAddr) (w : Word) : State := { s with rf := writeReg s.rf b w }

/-- The state with the accumulator written. -/
def State.setQ (s : State) (w : Word) : State := { s with q := w }

/-- The five latches every compute step drives (R38, R242). -/
def Outputs.driveResult (o : Outputs) (y : Word) (a : AluOut) : Outputs :=
  { o with y := some y, z := some a.z, f3 := some a.f3, ovr := some a.ovr, c4 := some a.c4 }

/-- The four boundary latches: driven where the cycle gives values for them, else held (R213, R214). -/
def Outputs.driveBoundary (o : Outputs) (b : Option Boundary) : Outputs :=
  match b with
  | some w => { o with rl := some w.rl, rm := some w.rm, ql := some w.ql, qm := some w.qm }
  | none => o

/-- The end of a compute step (R242): registers and outputs written together. -/
def State.publish (s : State) (r : Routed) (a : AluOut) : State :=
  { s with rf := r.rf, q := r.q, out := (s.out.driveResult r.y a).driveBoundary r.boundary }

/-- The clear step (R241): every register and Q become 0 and every output latch unknown; no compute. -/
def State.clear (s : State) : State :=
  { s with rf := Vector.replicate 16 0, q := 0, out := .unknown }

/-- Construction from a word width and the shift-link feature (R8, R9): two combinations exist, the others are refused by name.
Log entry 12. -/
def construct (w : Nat) (shiftLink : Bool) (ovr : OvrLogicMode) (dst : V4ShiftDst) :
    Host.Outcome State Fault Refusal :=
  match w, shiftLink with
  | 4, false => .next (.construction ⟨.v4, ovr, dst⟩)
  | 8, true => .next (.construction ⟨.v8, ovr, dst⟩)
  | 4, true => .refused (.featureMismatch 4)
  | 8, false => .refused (.featureMismatch 8)
  | n, _ => .refused (.unsupportedWidth n)

end Sys2Proof.Machine
end

