-- ==== Sys2Proof/Machine/Operands.lean ====
section
/-! DEFINITION. The operand selector (spec/40_operand_select.md): a pure function of the pre-cycle state and the inputs (R110). -/

namespace Sys2Proof.Machine

/-- R111. -/
def selectAQ (s : State) (x : Operands) : OperandPair := ⟨s.reg x.a, s.q⟩

/-- R112. -/
def selectAB (s : State) (x : Operands) : OperandPair := ⟨s.reg x.a, s.reg x.b⟩

/-- R113. -/
def selectZQ (s : State) (_x : Operands) : OperandPair := ⟨0, s.q⟩

/-- R114. -/
def selectZB (s : State) (x : Operands) : OperandPair := ⟨0, s.reg x.b⟩

/-- R115: RF[A] goes to S. -/
def selectZA (s : State) (x : Operands) : OperandPair := ⟨0, s.reg x.a⟩

/-- R116. -/
def selectDA (s : State) (x : Operands) : OperandPair := ⟨x.d, s.reg x.a⟩

/-- R117. -/
def selectDQ (s : State) (x : Operands) : OperandPair := ⟨x.d, s.q⟩

/-- R118. -/
def selectDZ (_s : State) (x : Operands) : OperandPair := ⟨x.d, 0⟩

/-- The selector (R110). -/
def select : Src → State → Operands → OperandPair
  | .aq => selectAQ
  | .ab => selectAB
  | .zq => selectZQ
  | .zb => selectZB
  | .za => selectZA
  | .da => selectDA
  | .dq => selectDQ
  | .dz => selectDZ

end Sys2Proof.Machine
end

