-- ==== Sys2Proof/Machine/Shift.lean ====
section
/-! DEFINITION. The shift-link network of V8 (spec/43_shift_link.md), where W = 8: bit 7 is the top bit. -/

namespace Sys2Proof.Machine

/-- The 1-bit logical shift of a unit (R203). -/
def shiftUnit (right : Bool) (x : Word) : Word := if right then shiftRight x else shiftLeft x

/-- The raw shift (R203): the register always, the accumulator where it shifts (R201). -/
def rawShift : LinkRule := fun right shiftQ r q =>
  ⟨shiftUnit right r, if shiftQ then shiftUnit right q else q⟩

/-- The position a shift vacates: bit 7 to the right, bit 0 to the left (R203). -/
def vacated (right : Bool) : Nat := if right then 7 else 0

/-- The captured bit that leaves a unit: bit 0 to the right, bit 7 to the left (R202, R203). -/
def leaving (right : Bool) (x : Word) : Bool := if right then x.getLsbD 0 else x.getLsbD 7

/-- The override of the register's vacated bit (R208: the register always shifts). -/
def fillR (right : Bool) (b : Bool) (t : Shifted) : Shifted := { t with r := setBit t.r (vacated right) b }

/-- The override of the accumulator's vacated bit, applied only where the accumulator shifts (R208). -/
def fillQ (right shiftQ : Bool) (b : Bool) (t : Shifted) : Shifted :=
  if shiftQ then { t with q := setBit t.q (vacated right) b } else t

/-- R204: no override. -/
def linkLNONE : LinkRule := fun right shiftQ r q => rawShift right shiftQ r q

/-- R205: each unit takes its own leaving bit. -/
def linkLROT : LinkRule := fun right shiftQ r q =>
  fillQ right shiftQ (leaving right q) (fillR right (leaving right r) (rawShift right shiftQ r q))

/-- R206: each unit takes the other's leaving bit. -/
def linkLXFEED : LinkRule := fun right shiftQ r q =>
  fillQ right shiftQ (leaving right r) (fillR right (leaving right q) (rawShift right shiftQ r q))

/-- R207: to the right the accumulator takes the register's leaving bit; to the left the register takes the accumulator's. -/
def linkLONEWAY : LinkRule := fun right shiftQ r q =>
  if right then fillQ right shiftQ (leaving right r) (rawShift right shiftQ r q)
  else fillR right (leaving right q) (rawShift right shiftQ r q)

/-- The link mode (R211). -/
def link : Link → LinkRule
  | .lnone => linkLNONE
  | .lrot => linkLROT
  | .lxfeed => linkLXFEED
  | .loneway => linkLONEWAY

/-- The boundary pins' values: the post-shift end bits of both units (R213). -/
def boundaryOf (t : Shifted) : Boundary :=
  { rl := t.r.getLsbD 0, rm := t.r.getLsbD 7, ql := t.q.getLsbD 0, qm := t.q.getLsbD 7 }

end Sys2Proof.Machine
end

