-- ==== Sys2Proof/Machine/Route.lean ====
section
/-! DEFINITION. The destination router (spec/42_destination.md). Every read is of the pre-cycle state (R65, R66). -/

namespace Sys2Proof.Machine

/-- R171. -/
def routeQREG (_lk : LinkRule) (s : State) (_x : Operands) (f : Word) : Routed := ⟨s.rf, f, f, none⟩

/-- R172. -/
def routeNOP (_lk : LinkRule) (s : State) (_x : Operands) (f : Word) : Routed := ⟨s.rf, s.q, f, none⟩

/-- R173: Y is RF[A] as it was before the write. -/
def routeRAMA (_lk : LinkRule) (s : State) (x : Operands) (f : Word) : Routed :=
  ⟨writeReg s.rf x.b f, s.q, s.reg x.a, none⟩

/-- R174. -/
def routeRAMF (_lk : LinkRule) (s : State) (x : Operands) (f : Word) : Routed :=
  ⟨writeReg s.rf x.b f, s.q, f, none⟩

/-- The four shift codes. On V8 the old RF[B] (and Q) shift under the link mode, F is on Y alone, and the boundary pins are
driven (R201, R212, R213). On V4 there is no shift: V4_SHIFT_DST (R179, log entry 6). -/
def routeShift (right shiftQ : Bool) (lk : LinkRule) (s : State) (x : Operands) (f : Word) : Routed :=
  match s.cfg.variant with
  | .v8 =>
    let t := lk right shiftQ (s.reg x.b) s.q
    ⟨writeReg s.rf x.b t.r, t.q, f, some (boundaryOf t)⟩
  | .v4 =>
    match s.cfg.v4ShiftDst with
    | .nopF => ⟨s.rf, s.q, f, none⟩
    | .nopZero => ⟨s.rf, s.q, 0, none⟩
    | .writeF => ⟨writeReg s.rf x.b f, s.q, f, none⟩

/-- R175. -/
def routeSRBQ : LinkRule → State → Operands → Word → Routed := routeShift true true

/-- R176. -/
def routeSRB : LinkRule → State → Operands → Word → Routed := routeShift true false

/-- R177. -/
def routeSLBQ : LinkRule → State → Operands → Word → Routed := routeShift false true

/-- R178. -/
def routeSLB : LinkRule → State → Operands → Word → Routed := routeShift false false

/-- The router (R170). -/
def route : Dst → LinkRule → State → Operands → Word → Routed
  | .qreg => routeQREG
  | .nop => routeNOP
  | .rama => routeRAMA
  | .ramf => routeRAMF
  | .srbq => routeSRBQ
  | .srb => routeSRB
  | .slbq => routeSLBQ
  | .slb => routeSLB

end Sys2Proof.Machine
end

