-- ==== Sys2Proof/Machine/Cycle.lean ====
section
/-! DEFINITION. The cycle controller (spec/44_cycle.md): the compute step, which kind of step an invocation is, and taking the
next invocation. -/

namespace Sys2Proof.Machine

/-- The compute step (R242) from one rule of each component: selector, ALU, router, link mode. -/
def runCycle (sel : State → Operands → OperandPair) (fn : Config → OperandPair → Bool → AluOut)
    (rt : LinkRule → State → Operands → Word → Routed) (lk : LinkRule) (x : Operands) (s : State) :
    Host.Outcome State Fault Refusal :=
  let a := fn s.cfg (sel s x) x.c0
  .next (s.publish (rt lk s x a.f) a)

/-- The three kinds of step (R240). -/
inductive StepKind
  | clear
  | compute
  | idle
  deriving DecidableEq, Repr

/-- Clear check, then clock-edge check (R240, R274). -/
def stepKind (inv : Invocation) : StepKind :=
  if inv.clr then .clear else if inv.rising then .compute else .idle

/-- The next invocation of the host and the state without it; none where the host makes no more. Log entry 2. -/
def takeInvocation (s : State) : Option (Invocation × State) :=
  match s.pending with
  | [] => none
  | inv :: rest => some (inv, { s with pending := rest })

/-- The idle step (R243): the state, every output latch included, is unchanged. -/
def idleStep (s : State) : State := s

/-- The invocation that presents a table word at a rising clock edge with clear not asserted. Log entry 11. -/
def tableInvocation (nbits w : Nat) : Invocation where
  clr := false
  rising := true
  pins := tablePins nbits w

/-- The host's next invocation, put before those it has still to make. -/
def State.offerFirst (s : State) (inv : Invocation) : State := { s with pending := inv :: s.pending }

/-- The host's invocation, put after those it has still to make. -/
def State.offer (s : State) (inv : Invocation) : State := { s with pending := s.pending ++ [inv] }

/-- The Boolean clr from the electrical level of the OE pin (R13). Log entry 8. -/
def clrOfLevel (oe : Level) : Bool := oe = Config.oeAssertedLevel

/-- The time at which the pins show what a compute step at an edge latched (R244). No rule reads it. Log entry 9. -/
def publishTime (edge : Nat) : Nat := edge + Config.propagationDelay

end Sys2Proof.Machine
end

