-- ==== Sys2Proof/Machine/Destination.lean ====
section
/-! DEFINITION. The micro-instruction as its destination row names it (R171 to R178): one compute step (R242). -/

namespace Sys2Proof.Machine

/-- QREG (R171). -/
def execQreg (src : Src) (fn : Fn) (m : Link) (x : Operands) (s : State) : Host.Outcome State Fault Refusal :=
  runCycle (select src) (alu fn) routeQREG (link m) x s

/-- NOP (R172). -/
def execNop (src : Src) (fn : Fn) (m : Link) (x : Operands) (s : State) : Host.Outcome State Fault Refusal :=
  runCycle (select src) (alu fn) routeNOP (link m) x s

/-- RAMA (R173). -/
def execRama (src : Src) (fn : Fn) (m : Link) (x : Operands) (s : State) : Host.Outcome State Fault Refusal :=
  runCycle (select src) (alu fn) routeRAMA (link m) x s

/-- RAMF (R174). -/
def execRamf (src : Src) (fn : Fn) (m : Link) (x : Operands) (s : State) : Host.Outcome State Fault Refusal :=
  runCycle (select src) (alu fn) routeRAMF (link m) x s

/-- SRBQ (R175). -/
def execSrbq (src : Src) (fn : Fn) (m : Link) (x : Operands) (s : State) : Host.Outcome State Fault Refusal :=
  runCycle (select src) (alu fn) routeSRBQ (link m) x s

/-- SRB (R176). -/
def execSrb (src : Src) (fn : Fn) (m : Link) (x : Operands) (s : State) : Host.Outcome State Fault Refusal :=
  runCycle (select src) (alu fn) routeSRB (link m) x s

/-- SLBQ (R177). -/
def execSlbq (src : Src) (fn : Fn) (m : Link) (x : Operands) (s : State) : Host.Outcome State Fault Refusal :=
  runCycle (select src) (alu fn) routeSLBQ (link m) x s

/-- SLB (R178). -/
def execSlb (src : Src) (fn : Fn) (m : Link) (x : Operands) (s : State) : Host.Outcome State Fault Refusal :=
  runCycle (select src) (alu fn) routeSLB (link m) x s

end Sys2Proof.Machine
end

