-- ==== Sys2Proof/Machine/Function.lean ====
section
/-! DEFINITION. The micro-instruction as its function row names it (R137 to R144): one compute step (R242). -/

namespace Sys2Proof.Machine

/-- ADD (R137). -/
def execAdd (src : Src) (dst : Dst) (m : Link) (x : Operands) (s : State) : Host.Outcome State Fault Refusal :=
  runCycle (select src) aluADD (route dst) (link m) x s

/-- SUBR (R138). -/
def execSubr (src : Src) (dst : Dst) (m : Link) (x : Operands) (s : State) : Host.Outcome State Fault Refusal :=
  runCycle (select src) aluSUBR (route dst) (link m) x s

/-- SUBS (R139). -/
def execSubs (src : Src) (dst : Dst) (m : Link) (x : Operands) (s : State) : Host.Outcome State Fault Refusal :=
  runCycle (select src) aluSUBS (route dst) (link m) x s

/-- OR (R140). -/
def execOr (src : Src) (dst : Dst) (m : Link) (x : Operands) (s : State) : Host.Outcome State Fault Refusal :=
  runCycle (select src) aluOR (route dst) (link m) x s

/-- AND (R141). -/
def execAnd (src : Src) (dst : Dst) (m : Link) (x : Operands) (s : State) : Host.Outcome State Fault Refusal :=
  runCycle (select src) aluAND (route dst) (link m) x s

/-- NOTRS (R142). -/
def execNotrs (src : Src) (dst : Dst) (m : Link) (x : Operands) (s : State) : Host.Outcome State Fault Refusal :=
  runCycle (select src) aluNOTRS (route dst) (link m) x s

/-- EXOR (R143). -/
def execExor (src : Src) (dst : Dst) (m : Link) (x : Operands) (s : State) : Host.Outcome State Fault Refusal :=
  runCycle (select src) aluEXOR (route dst) (link m) x s

/-- EXNOR (R144). -/
def execExnor (src : Src) (dst : Dst) (m : Link) (x : Operands) (s : State) : Host.Outcome State Fault Refusal :=
  runCycle (select src) aluEXNOR (route dst) (link m) x s

end Sys2Proof.Machine
end

