-- ==== Sys2Proof/Machine/LinkMode.lean ====
section
/-! DEFINITION. The micro-instruction as its link-mode row names it (R204 to R207). The mode acts in the shift cycles of V8 alone; in every other cycle it is not read (R200), and V4 has no such row (R81; log entry 14): one compute step (R242). -/

namespace Sys2Proof.Machine

/-- LNONE (R204). -/
def execLnone (src : Src) (fn : Fn) (dst : Dst) (x : Operands) (s : State) : Host.Outcome State Fault Refusal :=
  runCycle (select src) (alu fn) (route dst) linkLNONE x s

/-- LROT (R205). -/
def execLrot (src : Src) (fn : Fn) (dst : Dst) (x : Operands) (s : State) : Host.Outcome State Fault Refusal :=
  runCycle (select src) (alu fn) (route dst) linkLROT x s

/-- LXFEED (R206). -/
def execLxfeed (src : Src) (fn : Fn) (dst : Dst) (x : Operands) (s : State) : Host.Outcome State Fault Refusal :=
  runCycle (select src) (alu fn) (route dst) linkLXFEED x s

/-- LONEWAY (R207). -/
def execLoneway (src : Src) (fn : Fn) (dst : Dst) (x : Operands) (s : State) : Host.Outcome State Fault Refusal :=
  runCycle (select src) (alu fn) (route dst) linkLONEWAY x s

end Sys2Proof.Machine
end

