-- ==== Sys2Proof/Machine/Source.lean ====
section
/-! DEFINITION. The micro-instruction as its source row names it (R111 to R118): one compute step (R242). -/

namespace Sys2Proof.Machine

/-- AQ (R111). -/
def execAq (fn : Fn) (dst : Dst) (m : Link) (x : Operands) (s : State) : Host.Outcome State Fault Refusal :=
  runCycle selectAQ (alu fn) (route dst) (link m) x s

/-- AB (R112). -/
def execAb (fn : Fn) (dst : Dst) (m : Link) (x : Operands) (s : State) : Host.Outcome State Fault Refusal :=
  runCycle selectAB (alu fn) (route dst) (link m) x s

/-- ZQ (R113). -/
def execZq (fn : Fn) (dst : Dst) (m : Link) (x : Operands) (s : State) : Host.Outcome State Fault Refusal :=
  runCycle selectZQ (alu fn) (route dst) (link m) x s

/-- ZB (R114). -/
def execZb (fn : Fn) (dst : Dst) (m : Link) (x : Operands) (s : State) : Host.Outcome State Fault Refusal :=
  runCycle selectZB (alu fn) (route dst) (link m) x s

/-- ZA (R115). -/
def execZa (fn : Fn) (dst : Dst) (m : Link) (x : Operands) (s : State) : Host.Outcome State Fault Refusal :=
  runCycle selectZA (alu fn) (route dst) (link m) x s

/-- DA (R116). -/
def execDa (fn : Fn) (dst : Dst) (m : Link) (x : Operands) (s : State) : Host.Outcome State Fault Refusal :=
  runCycle selectDA (alu fn) (route dst) (link m) x s

/-- DQ (R117). -/
def execDq (fn : Fn) (dst : Dst) (m : Link) (x : Operands) (s : State) : Host.Outcome State Fault Refusal :=
  runCycle selectDQ (alu fn) (route dst) (link m) x s

/-- DZ (R118). -/
def execDz (fn : Fn) (dst : Dst) (m : Link) (x : Operands) (s : State) : Host.Outcome State Fault Refusal :=
  runCycle selectDZ (alu fn) (route dst) (link m) x s

end Sys2Proof.Machine
end

