-- ==== Sys2Proof/Machine/Dispatch.lean ====
section
/-! DEFINITION. One arm per row of the opcode table. -/

namespace Sys2Proof.Machine

def exec (i : Instr) (s : State) : Host.Outcome State Fault Refusal :=
  match i with
  | .aq fn dst m x => Sys2Proof.Machine.execAq fn dst m x s
  | .ab fn dst m x => Sys2Proof.Machine.execAb fn dst m x s
  | .zq fn dst m x => Sys2Proof.Machine.execZq fn dst m x s
  | .zb fn dst m x => Sys2Proof.Machine.execZb fn dst m x s
  | .za fn dst m x => Sys2Proof.Machine.execZa fn dst m x s
  | .da fn dst m x => Sys2Proof.Machine.execDa fn dst m x s
  | .dq fn dst m x => Sys2Proof.Machine.execDq fn dst m x s
  | .dz fn dst m x => Sys2Proof.Machine.execDz fn dst m x s
  | .add src dst m x => Sys2Proof.Machine.execAdd src dst m x s
  | .subr src dst m x => Sys2Proof.Machine.execSubr src dst m x s
  | .subs src dst m x => Sys2Proof.Machine.execSubs src dst m x s
  | .or src dst m x => Sys2Proof.Machine.execOr src dst m x s
  | .and src dst m x => Sys2Proof.Machine.execAnd src dst m x s
  | .notrs src dst m x => Sys2Proof.Machine.execNotrs src dst m x s
  | .exor src dst m x => Sys2Proof.Machine.execExor src dst m x s
  | .exnor src dst m x => Sys2Proof.Machine.execExnor src dst m x s
  | .qreg src fn m x => Sys2Proof.Machine.execQreg src fn m x s
  | .nop src fn m x => Sys2Proof.Machine.execNop src fn m x s
  | .rama src fn m x => Sys2Proof.Machine.execRama src fn m x s
  | .ramf src fn m x => Sys2Proof.Machine.execRamf src fn m x s
  | .srbq src fn m x => Sys2Proof.Machine.execSrbq src fn m x s
  | .srb src fn m x => Sys2Proof.Machine.execSrb src fn m x s
  | .slbq src fn m x => Sys2Proof.Machine.execSlbq src fn m x s
  | .slb src fn m x => Sys2Proof.Machine.execSlb src fn m x s
  | .lnone src fn dst x => Sys2Proof.Machine.execLnone src fn dst x s
  | .lrot src fn dst x => Sys2Proof.Machine.execLrot src fn dst x s
  | .lxfeed src fn dst x => Sys2Proof.Machine.execLxfeed src fn dst x s
  | .loneway src fn dst x => Sys2Proof.Machine.execLoneway src fn dst x s

end Sys2Proof.Machine
end

