-- ==== Sys2Proof/Machine/Step.lean ====
section
/-! DEFINITION. One step of the machine (R240): the host's next invocation, as the kind of step it is. -/

namespace Sys2Proof.Machine

/-- One invocation (R240 to R243). Where the host makes no invocation nothing changes (log entry 2). -/
def step (s : State) : Host.Outcome State Fault Refusal :=
  match takeInvocation s with
  | none => .next (idleStep s)
  | some (inv, t) =>
    match stepKind inv with
    | .clear => .next t.clear
    | .compute => exec (decode t.cfg.variant inv.pins) t
    | .idle => .next (idleStep t)

/-- The state whose next invocation presents the table word at a rising edge. Log entry 11. -/
def State.withFetchWord (s : State) (nbits w : Nat) : State := s.offerFirst (tableInvocation nbits w)

end Sys2Proof.Machine
end

