-- ==== Sys2Proof/Safety.lean ====
section
/-! DEFINITION. What a run of the machine is, what a good state is, and the terms the statements use. -/

namespace Sys2Proof.Machine

/-- The range rule (R15, R31, R34): every register, Q and a driven Y lie in [0, MASK] of the instance's variant. -/
abbrev State.InRange (s : State) : Prop :=
  (∀ a : RegAddr, (s.reg a).toNat ≤ s.cfg.variant.mask) ∧ s.q.toNat ≤ s.cfg.variant.mask ∧
    ∀ y ∈ s.out.y, y.toNat ≤ s.cfg.variant.mask

/-- A compute step drives Y and the four flags together (R38, R242), a V8 shift cycle the four boundary pins with them (R213):
so these latches are known together. -/
abbrev State.LatchesTogether (s : State) : Prop :=
  s.out.z.isSome = s.out.y.isSome ∧ s.out.f3.isSome = s.out.y.isSome ∧ s.out.ovr.isSome = s.out.y.isSome ∧
    s.out.c4.isSome = s.out.y.isSome ∧ s.out.rm.isSome = s.out.rl.isSome ∧ s.out.ql.isSome = s.out.rl.isSome ∧
    s.out.qm.isSome = s.out.rl.isSome ∧ (s.out.rl.isSome = true → s.out.y.isSome = true)

/-- V4 has no boundary pins: their latches are never driven (R38, R213). -/
abbrev State.BoundaryOnV8 (s : State) : Prop :=
  s.cfg.variant = .v4 → s.out.rl = none ∧ s.out.rm = none ∧ s.out.ql = none ∧ s.out.qm = none

/-- The invariant of the machine. -/
abbrev State.Inv (s : State) : Prop := s.InRange ∧ s.LatchesTogether ∧ s.BoundaryOnV8

/-- The states an instance can be in (R303): right after construction, with one more invocation offered by the host, after a step. -/
inductive Reachable : State → Prop
  | constructed (c : Config) : Reachable (.construction c)
  | offered (s : State) (inv : Invocation) : Reachable s → Reachable (s.offer inv)
  | stepped (s t : State) : Reachable s → step s = .next t → Reachable t

/-- A safe run: after any number of steps the machine has stopped on no fault and no refusal (R245, R270). -/
def NeverStops (s : State) : Prop := ∀ k, ∃ t, Host.Core.run Sys2Proof.core k s = .next t

/-- The ALU's outputs for a source and a function row (R242). -/
def resultOf (src : Src) (fn : Fn) (x : Operands) (s : State) : AluOut := alu fn s.cfg (select src s x) x.c0

/-- The state after the router has taken an ALU output to its destination (R242). -/
def deliver (dst : Dst) (m : Link) (x : Operands) (s : State) (a : AluOut) : State :=
  s.publish (route dst (link m) s x a.f) a

/-- An instruction repeated: n compute steps of it. -/
def execTimes (i : Instr) : Nat → State → Host.Outcome State Fault Refusal
  | 0, s => .next s
  | n + 1, s =>
    match exec i s with
    | .next t => execTimes i n t
    | .fault r => .fault r
    | .refused r => .refused r

/-- Direction and "the accumulator shifts too" of a shift code (R201); none for the codes that do not shift. -/
def shiftFlags : Dst → Option (Bool × Bool)
  | .qreg => none
  | .nop => none
  | .rama => none
  | .ramf => none
  | .srbq => some (true, true)
  | .srb => some (true, false)
  | .slbq => some (false, true)
  | .slb => some (false, false)

/-- The four flag latches show an ALU output's flags (R36, R242). -/
abbrev State.ShowsFlags (t : State) (a : AluOut) : Prop :=
  t.out.z = some a.z ∧ t.out.f3 = some a.f3 ∧ t.out.ovr = some a.ovr ∧ t.out.c4 = some a.c4

/-- The four boundary latches of t are those of s (R214). -/
abbrev BoundaryHeld (s t : State) : Prop :=
  t.out.rl = s.out.rl ∧ t.out.rm = s.out.rm ∧ t.out.ql = s.out.ql ∧ t.out.qm = s.out.qm

/-- What no instruction changes: what construction fixed, and the invocations still to come. -/
abbrev SameInstance (s t : State) : Prop := t.cfg = s.cfg ∧ t.pending = s.pending

/-- What a V8 shift cycle does beside the two shifted values (R212, R213): Y shows F, the flags are driven, no register but
RF[b] changes, and the boundary pins show the end bits of RF[b] and Q as they are after the shift. -/
abbrev ShiftCycleFrame (s t : State) (b : RegAddr) (a : AluOut) : Prop :=
  t.out.y = some a.f ∧ t.ShowsFlags a ∧ (∀ k, k ≠ b → t.reg k = s.reg k) ∧
    t.out.rl = some ((t.reg b).getLsbD 0) ∧ t.out.rm = some ((t.reg b).getLsbD 7) ∧
    t.out.ql = some (t.q.getLsbD 0) ∧ t.out.qm = some (t.q.getLsbD 7) ∧ SameInstance s t

/-- The word x moved by one bit into x', the vacated bit holding `fill` (R203, R209). -/
abbrev MovedOneBit (right : Bool) (x x' : Word) (fill : Bool) : Prop :=
  if right then (∀ k < 7, x'.getLsbD k = x.getLsbD (k + 1)) ∧ x'.getLsbD 7 = fill
  else (∀ k < 7, x'.getLsbD (k + 1) = x.getLsbD k) ∧ x'.getLsbD 0 = fill

/-- The bit of a unit that a shift moves out (R202): bit 0 to the right, bit W-1 to the left. -/
abbrev movedOut (right : Bool) (x : Word) : Bool := x.getLsbD (if right then 0 else 7)

/-- The register and the accumulator as one 16-bit number, the register in the high half (R210). -/
abbrev pairValue (r q : Word) : Nat := r.toNat * 256 + q.toNat

end Sys2Proof.Machine
end

