-- ==== Sys2Proof/Certificates/Slice0/Obligations.lean ====
section
/-! DEFINITION. The statements for the provers. In them, `resultOf src fn x s` is the ALU's output for the operands the source
row selects, and `deliver dst m x s a` the state after the router has taken the ALU output `a` to its destination; what the two
are is stated row by row below. -/

open Sys2Proof Sys2Proof.Machine

/-! ## Reset, construction, and the three kinds of step -/

/-- R43: right after construction, and after a clear, every register and Q are 0 and every output latch is unknown. -/
def Obligations.ConstructionAndClearZeroTheState : Prop :=
  ∀ (c : Config) (s : State),
    ((∀ a, (State.construction c).reg a = 0) ∧ (State.construction c).q = 0 ∧
      (State.construction c).out = .unknown) ∧
    ((∀ a, s.clear.reg a = 0) ∧ s.clear.q = 0 ∧ s.clear.out = .unknown)

/-- R9, R8, R271: two combinations of width and feature can be constructed; every other is refused by name. -/
def Obligations.ConstructionAcceptsTheTwoVariantsAlone : Prop :=
  ∀ (w : Nat) (l : Bool) (o : OvrLogicMode) (d : V4ShiftDst),
    construct w l o d =
      if w = 4 then
        (if l then .refused (.featureMismatch 4) else .next (.construction ⟨.v4, o, d⟩))
      else if w = 8 then
        (if l then .next (.construction ⟨.v8, o, d⟩) else .refused (.featureMismatch 8))
      else .refused (.unsupportedWidth w)

/-- R241: a clear invocation zeroes every register and Q, makes every output latch unknown and computes nothing, whatever the
clock and the other pins are. -/
def Obligations.ClearStepZeroesAndNeverComputes : Prop :=
  ∀ (s : State) (inv : Invocation) (rest : List Invocation), s.pending = inv :: rest → inv.clr = true →
    ∃ t, step s = .next t ∧ (∀ a, t.reg a = 0) ∧ t.q = 0 ∧ t.out = .unknown ∧ t.cfg = s.cfg ∧ t.pending = rest

/-- R13, R241, R274: whichever level OE_ASSERTED_LEVEL is, an invocation with OE at that level is a clear step, with a rising edge
too. R242, R243: with OE at the other level a rising edge runs the instruction on the pins, and no rising edge changes nothing. -/
def Obligations.AssertedOeLevelClears : Prop :=
  ∀ (s : State) (inv : Invocation) (rest : List Invocation) (oe : Level), s.pending = inv :: rest →
    inv.clr = clrOfLevel oe →
    step s =
      if oe = Config.oeAssertedLevel then .next (State.clear { s with pending := rest })
      else if inv.rising then exec (decode s.cfg.variant inv.pins) { s with pending := rest }
      else .next { s with pending := rest }

/-- R243: an invocation with no clear and no rising edge changes no state and no output latch. -/
def Obligations.IdleStepChangesNothing : Prop :=
  ∀ (s : State) (inv : Invocation) (rest : List Invocation), s.pending = inv :: rest → inv.clr = false →
    inv.rising = false → step s = .next { s with pending := rest }

/-- The model's choice (log entry 2), not a rule: where the host makes no invocation a step changes nothing. -/
def Obligations.NoInvocationNoChange : Prop :=
  ∀ s : State, s.pending = [] → step s = .next s

/-- R240, R242, R84: a rising edge without clear runs the instruction on the pins, by whichever of its rows it is named; around
`exec` the step only takes the invocation off the list. -/
def Obligations.ComputeStepRunsTheDecodedInstruction : Prop :=
  ∀ (s : State) (inv : Invocation) (rest : List Invocation) (f : Format) (i : Instr),
    s.pending = inv :: rest → inv.clr = false → inv.rising = true →
    decodeAs f s.cfg.variant inv.pins = .ok i → step s = exec i { s with pending := rest }

/-- R84: a micro-instruction does the same by whichever of the rows it matches it is named. -/
def Obligations.EveryRowNamesTheSameCycle : Prop :=
  ∀ (i j : Instr) (s : State), i.micro = j.micro → exec i s = exec j s

/-- The model's interface to the opcode table (log entry 11): a table word, placed as the next invocation, is decoded to an
instruction, and the very next step runs that instruction. -/
def Obligations.PlacedTableWordRunsNext : Prop :=
  (∀ (s : State) (w : Nat), w < 512 →
    ∃ i, decodeTableWord 16 w = some i ∧ step (s.withFetchWord 16 w) = exec i s) ∧
  (∀ (s : State) (w : Nat), w < 4 →
    ∃ i, decodeTableWord 8 w = some i ∧ step (s.withFetchWord 8 w) = exec i s)

/-- R40: no step changes what construction fixed. The clause about `pending` is the model's choice (log entry 2), not a rule: a step
drops the head of the model's own list of invocations, and leaves the list empty where it was empty and none is taken. -/
def Obligations.StepKeepsConstructionAndTakesOneInvocation : Prop :=
  ∀ s t : State, step s = .next t → t.cfg = s.cfg ∧ t.pending = s.pending.tail

/-- R245, R270: the core never stops: after any number of steps from any state there is a next state. -/
def Obligations.RunsNeverStop : Prop :=
  ∀ s : State, NeverStops s

/-! ## Encoding -/

/-- R80, R81, R84: an instruction encoded and decoded, under its own row's format, is that instruction, for every instruction the
variant has. -/
def Obligations.DecodeOfEncodeIsTheInstruction : Prop :=
  ∀ (v : Variant) (i : Instr), WellFormed v i → decodeAs i.format v (encode i) = .ok i

/-- R83: on V8 every pin value is one micro-instruction under each of the four formats, and encodes back to those pins; on V4 every
9-bit pattern is one under each of the three I9 formats. -/
def Obligations.EveryPatternIsAMicroInstruction : Prop :=
  (∀ (p : Pins) (f : Format), ∃ i, decodeAs f .v8 p = .ok i ∧ i.format = f ∧ encode i = p) ∧
  (∀ (p : Pins) (f : Format), f ≠ .link → ∃ i, decodeAs f .v4 p = .ok i ∧ i.format = f ∧ (encode i).i = p.i)

/-- Whatever the decoder answers is an instruction the variant has (R15, R81, R82). -/
def Obligations.DecodedInstructionsAreWellFormed : Prop :=
  ∀ (v : Variant) (p : Pins), WellFormed v (decode v p) ∧
    ∀ (f : Format) (i : Instr), decodeAs f v p = .ok i → WellFormed v i ∧ i.micro = (decode v p).micro

/-- R81, R83: the decoder rejects one thing only, the link-mode row of V4. -/
def Obligations.OnlyTheLinkRowOfV4IsRejected : Prop :=
  ∀ (f : Format) (v : Variant) (p : Pins),
    (decodeAs f v p = .error .noLinkPins ↔ f = .link ∧ v = .v4) ∧
    (¬ (f = .link ∧ v = .v4) → ∃ i, decodeAs f v p = .ok i)

/-- R80: the fields of I and I as their sum. -/
def Obligations.FieldsComposeTheMicroInstructionWord : Prop :=
  (∀ w : BitVec 9, (srcField w).toNat = w.toNat % 8 ∧ (fnField w).toNat = w.toNat / 8 % 8 ∧
    (dstField w).toNat = w.toNat / 64) ∧
  ∀ i : Instr, (encode i).i.toNat =
    (srcCode i.micro.src).toNat + 8 * (fnCode i.micro.fn).toNat + 64 * (dstCode i.micro.dst).toNat

/-- Words of R87 and of the programs of spec/95_test_vectors.md, decoded. -/
def Obligations.SpecWordsDecodeAsListed : Prop :=
  decodeAs .dst .v4 ⟨0b011_011_111#9, 0, 1, 5, false, 0⟩ = .ok (.ramf .dz .or .lnone ⟨0, 1, 5, false⟩) ∧
  decodeAs .src .v4 ⟨0b001_010_001#9, 2, 1, 0, true, 0⟩ = .ok (.ab .subs .nop .lnone ⟨2, 1, 0, true⟩) ∧
  decodeAs .fn .v4 ⟨0b010_110_000#9, 1, 1, 0, false, 0⟩ = .ok (.exor .aq .rama .lnone ⟨1, 1, 0, false⟩) ∧
  decodeAs .dst .v8 ⟨0b100_011_011#9, 0, 3, 0, false, 3⟩ = .ok (.srbq .zb .or .loneway ⟨0, 3, 0, false⟩) ∧
  decodeAs .link .v8 ⟨0b110_011_011#9, 0, 3, 0, false, 2⟩ = .ok (.lxfeed .zb .or .slbq ⟨0, 3, 0, false⟩)

/-! ## The source rows -/

/-- R111 to R118: the operand pair (R, S) each source row gives the ALU. -/
def Obligations.SourceRowsSelectTheirOperands : Prop :=
  ∀ (fn : Fn) (dst : Dst) (m : Link) (x : Operands) (s : State),
    exec (.aq fn dst m x) s = .next (deliver dst m x s (alu fn s.cfg ⟨s.reg x.a, s.q⟩ x.c0)) ∧
    exec (.ab fn dst m x) s = .next (deliver dst m x s (alu fn s.cfg ⟨s.reg x.a, s.reg x.b⟩ x.c0)) ∧
    exec (.zq fn dst m x) s = .next (deliver dst m x s (alu fn s.cfg ⟨0, s.q⟩ x.c0)) ∧
    exec (.zb fn dst m x) s = .next (deliver dst m x s (alu fn s.cfg ⟨0, s.reg x.b⟩ x.c0)) ∧
    exec (.za fn dst m x) s = .next (deliver dst m x s (alu fn s.cfg ⟨0, s.reg x.a⟩ x.c0)) ∧
    exec (.da fn dst m x) s = .next (deliver dst m x s (alu fn s.cfg ⟨x.d, s.reg x.a⟩ x.c0)) ∧
    exec (.dq fn dst m x) s = .next (deliver dst m x s (alu fn s.cfg ⟨x.d, s.q⟩ x.c0)) ∧
    exec (.dz fn dst m x) s = .next (deliver dst m x s (alu fn s.cfg ⟨x.d, 0⟩ x.c0))

/-! ## The function rows -/

/-- R137: ADD. -/
def Obligations.AddResultAndFlags : Prop :=
  ∀ (src : Src) (dst : Dst) (m : Link) (x : Operands) (s : State), s.InRange →
    WellFormed s.cfg.variant (.add src dst m x) →
    exec (.add src dst m x) s = .next (deliver dst m x s (resultOf src .add x s)) ∧
      let a := resultOf src .add x s
      let r := (select src s x).r.toNat
      let t := (select src s x).s.toNat
      let v := s.cfg.variant
      a.f.toNat = (r + t + x.c0.toNat) % v.modulus ∧ a.c4 = decide (v.modulus ≤ r + t) ∧
      a.f3 = decide (v.half ≤ a.f.toNat) ∧ a.z = decide (a.f.toNat = 0) ∧
      a.ovr = decide ((r < v.half ∧ t < v.half ∧ v.half ≤ a.f.toNat) ∨
        (v.half ≤ r ∧ v.half ≤ t ∧ a.f.toNat < v.half))

/-- R138: SUBR. -/
def Obligations.SubrResultAndFlags : Prop :=
  ∀ (src : Src) (dst : Dst) (m : Link) (x : Operands) (s : State), s.InRange →
    WellFormed s.cfg.variant (.subr src dst m x) →
    exec (.subr src dst m x) s = .next (deliver dst m x s (resultOf src .subr x s)) ∧
      let a := resultOf src .subr x s
      let r := (select src s x).r.toNat
      let t := (select src s x).s.toNat
      let v := s.cfg.variant
      (a.f.toNat : Int) = ((t : Int) - r - 1 + x.c0.toNat) % (v.modulus : Int) ∧ a.c4 = decide (r ≤ t) ∧
      a.f3 = decide (v.half ≤ a.f.toNat) ∧ a.z = decide (a.f.toNat = 0) ∧ a.ovr = false

/-- R139: SUBS. -/
def Obligations.SubsResultAndFlags : Prop :=
  ∀ (src : Src) (dst : Dst) (m : Link) (x : Operands) (s : State), s.InRange →
    WellFormed s.cfg.variant (.subs src dst m x) →
    exec (.subs src dst m x) s = .next (deliver dst m x s (resultOf src .subs x s)) ∧
      let a := resultOf src .subs x s
      let r := (select src s x).r.toNat
      let t := (select src s x).s.toNat
      let v := s.cfg.variant
      (a.f.toNat : Int) = ((r : Int) - t - 1 + x.c0.toNat) % (v.modulus : Int) ∧ a.c4 = decide (t ≤ r) ∧
      a.f3 = decide (v.half ≤ a.f.toNat) ∧ a.z = decide (a.f.toNat = 0) ∧ a.ovr = false

/-- R140: OR. Its overflow is false under either OVR_LOGIC_MODE. -/
def Obligations.OrResultAndFlags : Prop :=
  ∀ (src : Src) (dst : Dst) (m : Link) (x : Operands) (s : State), s.InRange →
    WellFormed s.cfg.variant (.or src dst m x) →
    exec (.or src dst m x) s = .next (deliver dst m x s (resultOf src .or x s)) ∧
      let a := resultOf src .or x s
      let r := (select src s x).r
      let t := (select src s x).s
      let v := s.cfg.variant
      a.f.toNat ≤ v.mask ∧ (∀ k < v.width, a.f.getLsbD k = (r.getLsbD k || t.getLsbD k)) ∧
      a.c4 = decide (v.modulus ≤ r.toNat + t.toNat) ∧ a.f3 = decide (v.half ≤ a.f.toNat) ∧
      a.z = decide (a.f.toNat = 0) ∧ a.ovr = false

/-- R141: AND. Its overflow is false under either OVR_LOGIC_MODE. -/
def Obligations.AndResultAndFlags : Prop :=
  ∀ (src : Src) (dst : Dst) (m : Link) (x : Operands) (s : State), s.InRange →
    WellFormed s.cfg.variant (.and src dst m x) →
    exec (.and src dst m x) s = .next (deliver dst m x s (resultOf src .and x s)) ∧
      let a := resultOf src .and x s
      let r := (select src s x).r
      let t := (select src s x).s
      let v := s.cfg.variant
      a.f.toNat ≤ v.mask ∧ (∀ k < v.width, a.f.getLsbD k = (r.getLsbD k && t.getLsbD k)) ∧
      a.c4 = decide (v.modulus ≤ r.toNat + t.toNat) ∧ a.f3 = decide (v.half ≤ a.f.toNat) ∧
      a.z = decide (a.f.toNat = 0) ∧ a.ovr = false

/-- R142: NOTRS. Under OVR_LOGIC_MODE `formula` OVR tells that both operands are at least HALF; under `false` it is false. -/
def Obligations.NotrsResultAndFlags : Prop :=
  ∀ (src : Src) (dst : Dst) (m : Link) (x : Operands) (s : State), s.InRange →
    WellFormed s.cfg.variant (.notrs src dst m x) →
    exec (.notrs src dst m x) s = .next (deliver dst m x s (resultOf src .notrs x s)) ∧
      let a := resultOf src .notrs x s
      let r := (select src s x).r
      let t := (select src s x).s
      let v := s.cfg.variant
      a.f.toNat ≤ v.mask ∧ (∀ k < v.width, a.f.getLsbD k = (!r.getLsbD k && t.getLsbD k)) ∧
      a.c4 = decide (v.modulus ≤ r.toNat + t.toNat) ∧ a.f3 = decide (v.half ≤ a.f.toNat) ∧
      a.z = decide (a.f.toNat = 0) ∧
      a.ovr = decide (s.cfg.ovrLogicMode = .formula ∧ v.half ≤ r.toNat ∧ v.half ≤ t.toNat)

/-- R143: EXOR. Its overflow as for NOTRS. -/
def Obligations.ExorResultAndFlags : Prop :=
  ∀ (src : Src) (dst : Dst) (m : Link) (x : Operands) (s : State), s.InRange →
    WellFormed s.cfg.variant (.exor src dst m x) →
    exec (.exor src dst m x) s = .next (deliver dst m x s (resultOf src .exor x s)) ∧
      let a := resultOf src .exor x s
      let r := (select src s x).r
      let t := (select src s x).s
      let v := s.cfg.variant
      a.f.toNat ≤ v.mask ∧ (∀ k < v.width, a.f.getLsbD k = (r.getLsbD k ^^ t.getLsbD k)) ∧
      a.c4 = decide (v.modulus ≤ r.toNat + t.toNat) ∧ a.f3 = decide (v.half ≤ a.f.toNat) ∧
      a.z = decide (a.f.toNat = 0) ∧
      a.ovr = decide (s.cfg.ovrLogicMode = .formula ∧ v.half ≤ r.toNat ∧ v.half ≤ t.toNat)

/-- R144: EXNOR. Under OVR_LOGIC_MODE `formula` OVR tells that both operands are below HALF; under `false` it is false. -/
def Obligations.ExnorResultAndFlags : Prop :=
  ∀ (src : Src) (dst : Dst) (m : Link) (x : Operands) (s : State), s.InRange →
    WellFormed s.cfg.variant (.exnor src dst m x) →
    exec (.exnor src dst m x) s = .next (deliver dst m x s (resultOf src .exnor x s)) ∧
      let a := resultOf src .exnor x s
      let r := (select src s x).r
      let t := (select src s x).s
      let v := s.cfg.variant
      a.f.toNat ≤ v.mask ∧ (∀ k < v.width, a.f.getLsbD k = !(r.getLsbD k ^^ t.getLsbD k)) ∧
      a.c4 = decide (v.modulus ≤ r.toNat + t.toNat) ∧ a.f3 = decide (v.half ≤ a.f.toNat) ∧
      a.z = decide (a.f.toNat = 0) ∧
      a.ovr = decide (s.cfg.ovrLogicMode = .formula ∧ r.toNat < v.half ∧ t.toNat < v.half)

/-- R145: the lookahead chain in closed form, for either variant and any chain operands of the variant's width, and the carry-out
of each function by R145's table. -/
def Obligations.LookaheadChainEqualsTheArithmeticCarry : Prop :=
  (∀ (v : Variant) (rc sc : Word) (cin : Bool), rc.toNat ≤ v.mask → sc.toNat ≤ v.mask →
    carryOut v rc sc cin = decide (v.modulus ≤ rc.toNat + sc.toNat + cin.toNat)) ∧
  ∀ (fn : Fn) (c : Config) (p : OperandPair) (c0 : Bool), p.r.toNat ≤ c.variant.mask → p.s.toNat ≤ c.variant.mask →
    (alu fn c p c0).c4 = match fn with
      | .subr => decide (p.r.toNat ≤ p.s.toNat)
      | .subs => decide (p.s.toNat ≤ p.r.toNat)
      | .add | .or | .and | .notrs | .exor | .exnor => decide (c.variant.modulus ≤ p.r.toNat + p.s.toNat)

/-- R133: the carry-out never depends on the C0 pin, for any function; and C0 changes nothing at all for the functions 3 to 7. -/
def Obligations.CarryOutIgnoresTheCarryIn : Prop :=
  ∀ (i j : Instr) (c : Bool) (s t u : State),
    j.micro = { i.micro with ops := { i.micro.ops with c0 := c } } →
    exec i s = .next t → exec j s = .next u →
    t.out.c4 = u.out.c4 ∧
    (i.micro.fn ≠ .add → i.micro.fn ≠ .subr → i.micro.fn ≠ .subs → t = u)

/-! ## The destination rows -/

/-- R171: QREG writes F to Q and to Y, and nothing else but the flags. -/
def Obligations.QregWritesTheAccumulator : Prop :=
  ∀ (src : Src) (fn : Fn) (m : Link) (x : Operands) (s : State),
    ∃ t, exec (.qreg src fn m x) s = .next t ∧ t.q = (resultOf src fn x s).f ∧
      t.out.y = some (resultOf src fn x s).f ∧ (∀ k, t.reg k = s.reg k) ∧
      t.ShowsFlags (resultOf src fn x s) ∧ BoundaryHeld s t ∧ SameInstance s t

/-- R172: NOP drives F on Y and the flags, and writes no register and not Q. -/
def Obligations.NopWritesNoRegister : Prop :=
  ∀ (src : Src) (fn : Fn) (m : Link) (x : Operands) (s : State),
    ∃ t, exec (.nop src fn m x) s = .next t ∧ t.q = s.q ∧
      t.out.y = some (resultOf src fn x s).f ∧ (∀ k, t.reg k = s.reg k) ∧
      t.ShowsFlags (resultOf src fn x s) ∧ BoundaryHeld s t ∧ SameInstance s t

/-- R173, R66: RAMA writes F to RF[B] and shows RF[A] as it was before the write, with A = B too. -/
def Obligations.RamaWritesBAndShowsOldA : Prop :=
  ∀ (src : Src) (fn : Fn) (m : Link) (x : Operands) (s : State),
    ∃ t, exec (.rama src fn m x) s = .next t ∧ t.q = s.q ∧ t.out.y = some (s.reg x.a) ∧
      (∀ k, t.reg k = if k = x.b then (resultOf src fn x s).f else s.reg k) ∧
      t.ShowsFlags (resultOf src fn x s) ∧ BoundaryHeld s t ∧ SameInstance s t

/-- R174: RAMF writes F to RF[B] and shows it. -/
def Obligations.RamfWritesBAndShowsIt : Prop :=
  ∀ (src : Src) (fn : Fn) (m : Link) (x : Operands) (s : State),
    ∃ t, exec (.ramf src fn m x) s = .next t ∧ t.q = s.q ∧ t.out.y = some (resultOf src fn x s).f ∧
      (∀ k, t.reg k = if k = x.b then (resultOf src fn x s).f else s.reg k) ∧
      t.ShowsFlags (resultOf src fn x s) ∧ BoundaryHeld s t ∧ SameInstance s t

/-- R175, R210 on V8: SRBQ moves the old RF[B] and Q right, by the row of R210's table for each link mode. -/
def Obligations.SrbqShiftsBothRight : Prop :=
  ∀ (src : Src) (fn : Fn) (m : Link) (x : Operands) (s : State), s.cfg.variant = .v8 →
    ∃ t, exec (.srbq src fn m x) s = .next t ∧ ShiftCycleFrame s t x.b (resultOf src fn x s) ∧
      let r := (s.reg x.b).toNat
      let q := s.q.toNat
      let p := pairValue (s.reg x.b) s.q
      match m with
      | .lnone => (t.reg x.b).toNat = r / 2 ∧ t.q.toNat = q / 2
      | .lrot => (t.reg x.b).toNat = r / 2 + r % 2 * 128 ∧ t.q.toNat = q / 2 + q % 2 * 128
      | .lxfeed => pairValue (t.reg x.b) t.q = p / 2 + p % 2 * 32768
      | .loneway => pairValue (t.reg x.b) t.q = p / 2

/-- R176, R210 on V8: SRB moves the old RF[B] right and leaves Q. -/
def Obligations.SrbShiftsTheRegisterRight : Prop :=
  ∀ (src : Src) (fn : Fn) (m : Link) (x : Operands) (s : State), s.cfg.variant = .v8 →
    ∃ t, exec (.srb src fn m x) s = .next t ∧ ShiftCycleFrame s t x.b (resultOf src fn x s) ∧
      t.q = s.q ∧
      let r := (s.reg x.b).toNat
      (t.reg x.b).toNat = match m with
        | .lnone => r / 2
        | .lrot => r / 2 + r % 2 * 128
        | .lxfeed => r / 2 + s.q.toNat % 2 * 128
        | .loneway => r / 2

/-- R177, R210 on V8: SLBQ moves the old RF[B] and Q left, by the row of R210's table for each link mode. -/
def Obligations.SlbqShiftsBothLeft : Prop :=
  ∀ (src : Src) (fn : Fn) (m : Link) (x : Operands) (s : State), s.cfg.variant = .v8 →
    ∃ t, exec (.slbq src fn m x) s = .next t ∧ ShiftCycleFrame s t x.b (resultOf src fn x s) ∧
      let r := (s.reg x.b).toNat
      let q := s.q.toNat
      let p := pairValue (s.reg x.b) s.q
      match m with
      | .lnone => (t.reg x.b).toNat = 2 * r % 256 ∧ t.q.toNat = 2 * q % 256
      | .lrot => (t.reg x.b).toNat = 2 * r % 256 + r / 128 ∧ t.q.toNat = 2 * q % 256 + q / 128
      | .lxfeed => pairValue (t.reg x.b) t.q = 2 * p % 65536 + p / 32768
      | .loneway => pairValue (t.reg x.b) t.q = 2 * p % 65536

/-- R178, R210 on V8: SLB moves the old RF[B] left and leaves Q. -/
def Obligations.SlbShiftsTheRegisterLeft : Prop :=
  ∀ (src : Src) (fn : Fn) (m : Link) (x : Operands) (s : State), s.cfg.variant = .v8 →
    ∃ t, exec (.slb src fn m x) s = .next t ∧ ShiftCycleFrame s t x.b (resultOf src fn x s) ∧
      t.q = s.q ∧
      let r := (s.reg x.b).toNat
      (t.reg x.b).toNat = match m with
        | .lnone => 2 * r % 256
        | .lrot => 2 * r % 256 + r / 128
        | .lxfeed => 2 * r % 256 + s.q.toNat / 128
        | .loneway => 2 * r % 256 + s.q.toNat / 128

/-- From R170, R179 and item I3: on V4 the four shift codes shift nothing and leave Q; V4_SHIFT_DST says what they do instead. Under
`nop_F`, R179's value, no register changes and Y shows F; under I3's `nop_zero` Y is 0; under I3's `write_F` RF[B] takes F. That the
flags are still the ALU's under `nop_zero` and `write_F` is DEDUCED (log entry 6). The statement also covers terms that V4 does not
have, whose execution is the model's choice (log entry 14). -/
def Obligations.ShiftCodesOnV4FollowTheParameter : Prop :=
  ∀ (src : Src) (fn : Fn) (m : Link) (x : Operands) (s : State), s.cfg.variant = .v4 →
    ∀ i ∈ [Instr.srbq src fn m x, .srb src fn m x, .slbq src fn m x, .slb src fn m x],
      ∃ t, exec i s = .next t ∧ t.q = s.q ∧
        (∀ k, t.reg k = if s.cfg.v4ShiftDst = .writeF ∧ k = x.b then (resultOf src fn x s).f else s.reg k) ∧
        t.out.y = some (if s.cfg.v4ShiftDst = .nopZero then 0 else (resultOf src fn x s).f) ∧
        t.ShowsFlags (resultOf src fn x s) ∧ BoundaryHeld s t ∧ SameInstance s t

/-! ## The link-mode rows -/

/-- R204: under LNONE every vacated bit is 0. -/
def Obligations.LnoneFillsWithZero : Prop :=
  ∀ (src : Src) (fn : Fn) (dst : Dst) (x : Operands) (s : State) (right both : Bool),
    s.cfg.variant = .v8 → shiftFlags dst = some (right, both) →
    ∃ t, exec (.lnone src fn dst x) s = .next t ∧ ShiftCycleFrame s t x.b (resultOf src fn x s) ∧
      MovedOneBit right (s.reg x.b) (t.reg x.b) false ∧
      (if both then MovedOneBit right s.q t.q false else t.q = s.q)

/-- R205: under LROT each unit that shifts takes its own bit back. -/
def Obligations.LrotRotatesEachUnit : Prop :=
  ∀ (src : Src) (fn : Fn) (dst : Dst) (x : Operands) (s : State) (right both : Bool),
    s.cfg.variant = .v8 → shiftFlags dst = some (right, both) →
    ∃ t, exec (.lrot src fn dst x) s = .next t ∧ ShiftCycleFrame s t x.b (resultOf src fn x s) ∧
      MovedOneBit right (s.reg x.b) (t.reg x.b) (movedOut right (s.reg x.b)) ∧
      (if both then MovedOneBit right s.q t.q (movedOut right s.q) else t.q = s.q)

/-- R206: under LXFEED each unit that shifts takes the other's bit, and the register does so where Q does not shift. -/
def Obligations.LxfeedCrossFeedsTheUnits : Prop :=
  ∀ (src : Src) (fn : Fn) (dst : Dst) (x : Operands) (s : State) (right both : Bool),
    s.cfg.variant = .v8 → shiftFlags dst = some (right, both) →
    ∃ t, exec (.lxfeed src fn dst x) s = .next t ∧ ShiftCycleFrame s t x.b (resultOf src fn x s) ∧
      MovedOneBit right (s.reg x.b) (t.reg x.b) (movedOut right s.q) ∧
      (if both then MovedOneBit right s.q t.q (movedOut right (s.reg x.b)) else t.q = s.q)

/-- R207: under LONEWAY the accumulator takes the register's bit to the right, the register the accumulator's to the left; the
other unit's vacated bit is 0. -/
def Obligations.LonewayFeedsOneWay : Prop :=
  ∀ (src : Src) (fn : Fn) (dst : Dst) (x : Operands) (s : State) (right both : Bool),
    s.cfg.variant = .v8 → shiftFlags dst = some (right, both) →
    ∃ t, exec (.loneway src fn dst x) s = .next t ∧ ShiftCycleFrame s t x.b (resultOf src fn x s) ∧
      MovedOneBit right (s.reg x.b) (t.reg x.b) (!right && movedOut right s.q) ∧
      (if both then MovedOneBit right s.q t.q (right && movedOut right (s.reg x.b)) else t.q = s.q)

/-- Outside the shift cycles of V8 the link mode is not read: the four link rows do the same. For the other destinations on V8 this
is R200; the V4 half is the model's choice (log entry 14), since V4 has no link rows and its decoder answers none. -/
def Obligations.LinkModeIsReadInV8ShiftsAlone : Prop :=
  ∀ (src : Src) (fn : Fn) (dst : Dst) (x : Operands) (s : State),
    s.cfg.variant = .v4 ∨ shiftFlags dst = none →
    exec (.lnone src fn dst x) s = .next (deliver dst .lnone x s (resultOf src fn x s)) ∧
    exec (.lrot src fn dst x) s = exec (.lnone src fn dst x) s ∧
    exec (.lxfeed src fn dst x) s = exec (.lnone src fn dst x) s ∧
    exec (.loneway src fn dst x) s = exec (.lnone src fn dst x) s

/-! ## Rules of the whole machine -/

/-- R36, R242, R270: every instruction, in every state, answers a next state that shows the four flags of its own ALU result. -/
def Obligations.EveryInstructionCompletesAndDrivesTheFlags : Prop :=
  ∀ (i : Instr) (s : State), ∃ t, exec i s = .next t ∧
    t.ShowsFlags (resultOf i.micro.src i.micro.fn i.micro.ops s) ∧ t.out.y.isSome = true ∧ SameInstance s t

/-- R32, R33: a compute cycle changes no register but RF[B], and that one only by the codes RAMA and RAMF, by a shift code on V8,
or by a shift code on V4 under V4_SHIFT_DST = `write_F`. -/
def Obligations.OnlyTheTargetRegisterChanges : Prop :=
  ∀ (i : Instr) (s t : State) (k : RegAddr), exec i s = .next t → t.reg k ≠ s.reg k →
    k = i.micro.ops.b ∧
    (i.micro.dst = .rama ∨ i.micro.dst = .ramf ∨
      ((shiftFlags i.micro.dst).isSome = true ∧ (s.cfg.variant = .v8 ∨ s.cfg.v4ShiftDst = .writeF)))

/-- R34: a compute cycle changes Q only by the code QREG, or by SRBQ or SLBQ on V8. -/
def Obligations.OnlyThreeCodesChangeTheAccumulator : Prop :=
  ∀ (i : Instr) (s t : State), exec i s = .next t → t.q ≠ s.q →
    i.micro.dst = .qreg ∨ (s.cfg.variant = .v8 ∧ (i.micro.dst = .srbq ∨ i.micro.dst = .slbq))

/-- R214: a step that is neither a clear nor a shift cycle of V8 leaves the boundary latches as they are. -/
def Obligations.BoundaryLatchesMoveInV8ShiftsAlone : Prop :=
  ∀ (s t : State) (inv : Invocation) (rest : List Invocation), s.pending = inv :: rest → step s = .next t →
    inv.clr = false →
    ¬ (inv.rising = true ∧ s.cfg.variant = .v8 ∧
      (shiftFlags (dstOfCode (dstField inv.pins.i))).isSome = true) →
    BoundaryHeld s t

/-- R30, R36: no rule reads an output latch: whatever the latches hold, an instruction writes the same registers, the same Q, the
same Y and the same flags. -/
def Obligations.NoOutputLatchIsRead : Prop :=
  ∀ (i : Instr) (s t : State) (o : Outputs), exec i s = .next t →
    ∃ u, exec i { s with out := o } = .next u ∧ u.rf = t.rf ∧ u.q = t.q ∧ u.cfg = t.cfg ∧
      u.pending = t.pending ∧ u.out.y = t.out.y ∧ u.out.z = t.out.z ∧ u.out.f3 = t.out.f3 ∧
      u.out.ovr = t.out.ovr ∧ u.out.c4 = t.out.c4

/-- R111 to R118: the D pins are read by the source rows DA, DQ and DZ alone. -/
def Obligations.DataPinsAreReadByThreeSourceRowsAlone : Prop :=
  ∀ (i j : Instr) (d : Word) (s : State),
    j.micro = { i.micro with ops := { i.micro.ops with d := d } } →
    i.micro.src ≠ .da → i.micro.src ≠ .dq → i.micro.src ≠ .dz → exec j s = exec i s

/-- R31: every register reads the last value written to it, and a write changes no other. -/
def Obligations.RegisterReadsTheLastWrite : Prop :=
  ∀ (s : State) (a b : RegAddr) (w : Word), (s.setReg b w).reg a = if a = b then w else s.reg a

/-- R210: the cross-fed left shift undoes the cross-fed right shift, and the right shift the left one. -/
def Obligations.CrossFedShiftsAreInverse : Prop :=
  ∀ (src src' : Src) (fn fn' : Fn) (x y : Operands) (s : State), s.cfg.variant = .v8 → y.b = x.b →
    (∃ t u, exec (.lxfeed src fn .srbq x) s = .next t ∧ exec (.lxfeed src' fn' .slbq y) t = .next u ∧
      u.rf = s.rf ∧ u.q = s.q) ∧
    (∃ t u, exec (.lxfeed src fn .slbq x) s = .next t ∧ exec (.lxfeed src' fn' .srbq y) t = .next u ∧
      u.rf = s.rf ∧ u.q = s.q)

/-- R210: the cross-fed right shift is a rotation of the 16-bit pair: n of them rotate it by n places, for every n; so 8 exchange
RF[B] and Q, and 16 restore both. -/
def Obligations.RepeatedCrossFedShiftsRotateThePair : Prop :=
  ∀ (src : Src) (fn : Fn) (x : Operands) (s : State) (n : Nat), s.cfg.variant = .v8 →
    ∃ t, execTimes (.lxfeed src fn .srbq x) n s = .next t ∧ (∀ k, k ≠ x.b → t.reg k = s.reg k) ∧
      (t.reg x.b ++ t.q) = (s.reg x.b ++ s.q).rotateRight n

/-! ## The invariant -/

/-- The construction state of every configuration, the reset state among them, meets the invariant. -/
def Obligations.ConstructionMeetsTheInvariant : Prop :=
  (∀ c : Config, (State.construction c).Inv) ∧ State.reset.Inv

/-- R15, R31, R34, R38, R213: every step keeps every word of the machine in the variant's range, the latches known together, and
the boundary latches of V4 unknown. -/
def Obligations.EveryStepKeepsTheInvariant : Prop :=
  ∀ s t : State, s.Inv → step s = .next t → t.Inv

/-- R303, R15: every state an instance can be in meets the invariant, whatever invocations the host offers: the invariant of
`Obligations.EveryStepKeepsTheInvariant`, packaged over `Reachable`. -/
def Obligations.ReachableStatesMeetTheInvariant : Prop :=
  ∀ s : State, Reachable s → s.Inv
end

