-- ==== Sys2Proof/Laws/State.lean ====
section
/-! SUPPORT. One lemma per field per update of the state and of the output latches. -/

namespace Sys2Proof.Machine

@[simp] theorem State.setReg_cfg (s : State) (b : RegAddr) (w : Word) : (s.setReg b w).cfg = s.cfg := rfl
@[simp] theorem State.setReg_rf (s : State) (b : RegAddr) (w : Word) : (s.setReg b w).rf = writeReg s.rf b w := rfl
@[simp] theorem State.setReg_q (s : State) (b : RegAddr) (w : Word) : (s.setReg b w).q = s.q := rfl
@[simp] theorem State.setReg_out (s : State) (b : RegAddr) (w : Word) : (s.setReg b w).out = s.out := rfl
@[simp] theorem State.setReg_pending (s : State) (b : RegAddr) (w : Word) : (s.setReg b w).pending = s.pending := rfl

@[simp] theorem State.setQ_cfg (s : State) (w : Word) : (s.setQ w).cfg = s.cfg := rfl
@[simp] theorem State.setQ_rf (s : State) (w : Word) : (s.setQ w).rf = s.rf := rfl
@[simp] theorem State.setQ_q (s : State) (w : Word) : (s.setQ w).q = w := rfl
@[simp] theorem State.setQ_out (s : State) (w : Word) : (s.setQ w).out = s.out := rfl
@[simp] theorem State.setQ_pending (s : State) (w : Word) : (s.setQ w).pending = s.pending := rfl

@[simp] theorem State.publish_cfg (s : State) (r : Routed) (a : AluOut) : (s.publish r a).cfg = s.cfg := rfl
@[simp] theorem State.publish_rf (s : State) (r : Routed) (a : AluOut) : (s.publish r a).rf = r.rf := rfl
@[simp] theorem State.publish_q (s : State) (r : Routed) (a : AluOut) : (s.publish r a).q = r.q := rfl
@[simp] theorem State.publish_out (s : State) (r : Routed) (a : AluOut) : (s.publish r a).out = (s.out.driveResult r.y a).driveBoundary r.boundary := rfl
@[simp] theorem State.publish_pending (s : State) (r : Routed) (a : AluOut) : (s.publish r a).pending = s.pending := rfl

@[simp] theorem State.clear_cfg (s : State) : (s.clear).cfg = s.cfg := rfl
@[simp] theorem State.clear_rf (s : State) : (s.clear).rf = Vector.replicate 16 0 := rfl
@[simp] theorem State.clear_q (s : State) : (s.clear).q = 0 := rfl
@[simp] theorem State.clear_out (s : State) : (s.clear).out = .unknown := rfl
@[simp] theorem State.clear_pending (s : State) : (s.clear).pending = s.pending := rfl

@[simp] theorem State.offerFirst_cfg (s : State) (inv : Invocation) : (s.offerFirst inv).cfg = s.cfg := rfl
@[simp] theorem State.offerFirst_rf (s : State) (inv : Invocation) : (s.offerFirst inv).rf = s.rf := rfl
@[simp] theorem State.offerFirst_q (s : State) (inv : Invocation) : (s.offerFirst inv).q = s.q := rfl
@[simp] theorem State.offerFirst_out (s : State) (inv : Invocation) : (s.offerFirst inv).out = s.out := rfl
@[simp] theorem State.offerFirst_pending (s : State) (inv : Invocation) : (s.offerFirst inv).pending = inv :: s.pending := rfl

@[simp] theorem State.offer_cfg (s : State) (inv : Invocation) : (s.offer inv).cfg = s.cfg := rfl
@[simp] theorem State.offer_rf (s : State) (inv : Invocation) : (s.offer inv).rf = s.rf := rfl
@[simp] theorem State.offer_q (s : State) (inv : Invocation) : (s.offer inv).q = s.q := rfl
@[simp] theorem State.offer_out (s : State) (inv : Invocation) : (s.offer inv).out = s.out := rfl
@[simp] theorem State.offer_pending (s : State) (inv : Invocation) : (s.offer inv).pending = s.pending ++ [inv] := rfl

@[simp] theorem State.construction_cfg (c : Config) : (State.construction c).cfg = c := rfl
@[simp] theorem State.construction_rf (c : Config) : (State.construction c).rf = Vector.replicate 16 0 := rfl
@[simp] theorem State.construction_q (c : Config) : (State.construction c).q = 0 := rfl
@[simp] theorem State.construction_out (c : Config) : (State.construction c).out = .unknown := rfl
@[simp] theorem State.construction_pending (c : Config) : (State.construction c).pending = [] := rfl

@[simp] theorem Outputs.driveResult_y (o : Outputs) (y : Word) (a : AluOut) : (o.driveResult y a).y = some y := rfl
@[simp] theorem Outputs.driveResult_z (o : Outputs) (y : Word) (a : AluOut) : (o.driveResult y a).z = some a.z := rfl
@[simp] theorem Outputs.driveResult_f3 (o : Outputs) (y : Word) (a : AluOut) : (o.driveResult y a).f3 = some a.f3 := rfl
@[simp] theorem Outputs.driveResult_ovr (o : Outputs) (y : Word) (a : AluOut) : (o.driveResult y a).ovr = some a.ovr := rfl
@[simp] theorem Outputs.driveResult_c4 (o : Outputs) (y : Word) (a : AluOut) : (o.driveResult y a).c4 = some a.c4 := rfl
@[simp] theorem Outputs.driveResult_rl (o : Outputs) (y : Word) (a : AluOut) : (o.driveResult y a).rl = o.rl := rfl
@[simp] theorem Outputs.driveResult_rm (o : Outputs) (y : Word) (a : AluOut) : (o.driveResult y a).rm = o.rm := rfl
@[simp] theorem Outputs.driveResult_ql (o : Outputs) (y : Word) (a : AluOut) : (o.driveResult y a).ql = o.ql := rfl
@[simp] theorem Outputs.driveResult_qm (o : Outputs) (y : Word) (a : AluOut) : (o.driveResult y a).qm = o.qm := rfl

@[simp] theorem Outputs.driveBoundary_some_y (o : Outputs) (b : Boundary) : (o.driveBoundary (some b)).y = o.y := rfl
@[simp] theorem Outputs.driveBoundary_some_z (o : Outputs) (b : Boundary) : (o.driveBoundary (some b)).z = o.z := rfl
@[simp] theorem Outputs.driveBoundary_some_f3 (o : Outputs) (b : Boundary) : (o.driveBoundary (some b)).f3 = o.f3 := rfl
@[simp] theorem Outputs.driveBoundary_some_ovr (o : Outputs) (b : Boundary) : (o.driveBoundary (some b)).ovr = o.ovr := rfl
@[simp] theorem Outputs.driveBoundary_some_c4 (o : Outputs) (b : Boundary) : (o.driveBoundary (some b)).c4 = o.c4 := rfl
@[simp] theorem Outputs.driveBoundary_some_rl (o : Outputs) (b : Boundary) : (o.driveBoundary (some b)).rl = some b.rl := rfl
@[simp] theorem Outputs.driveBoundary_some_rm (o : Outputs) (b : Boundary) : (o.driveBoundary (some b)).rm = some b.rm := rfl
@[simp] theorem Outputs.driveBoundary_some_ql (o : Outputs) (b : Boundary) : (o.driveBoundary (some b)).ql = some b.ql := rfl
@[simp] theorem Outputs.driveBoundary_some_qm (o : Outputs) (b : Boundary) : (o.driveBoundary (some b)).qm = some b.qm := rfl

@[simp] theorem Outputs.driveBoundary_none (o : Outputs) : o.driveBoundary none = o := rfl

@[simp] theorem Outputs.unknown_y : Outputs.unknown.y = none := rfl
@[simp] theorem Outputs.unknown_z : Outputs.unknown.z = none := rfl
@[simp] theorem Outputs.unknown_f3 : Outputs.unknown.f3 = none := rfl
@[simp] theorem Outputs.unknown_ovr : Outputs.unknown.ovr = none := rfl
@[simp] theorem Outputs.unknown_c4 : Outputs.unknown.c4 = none := rfl
@[simp] theorem Outputs.unknown_rl : Outputs.unknown.rl = none := rfl
@[simp] theorem Outputs.unknown_rm : Outputs.unknown.rm = none := rfl
@[simp] theorem Outputs.unknown_ql : Outputs.unknown.ql = none := rfl
@[simp] theorem Outputs.unknown_qm : Outputs.unknown.qm = none := rfl

end Sys2Proof.Machine
end

