-- ==== Sys2Proof/Laws/Ops.lean ====
section
/-! SUPPORT. For each shared operation, one lemma that says once what it does. -/

namespace Sys2Proof.Machine

/-- A register read after a register write. -/
@[simp] theorem readReg_writeReg (rf : RegFile) (a b : RegAddr) (w : Word) :
    readReg (writeReg rf b w) a = if a = b then w else readReg rf a := by
  unfold readReg writeReg
  rw [Vector.getElem_set]
  by_cases h : a = b
  · simp [h]
  · have : ¬ b.toNat = a.toNat := fun e => h (BitVec.eq_of_toNat_eq e.symm)
    simp [h, this]

/-- The zeroed register file. -/
@[simp] theorem readReg_zero (a : RegAddr) : readReg (Vector.replicate 16 0) a = 0 := by
  simp [readReg]

/-- Two register files that read alike are equal. -/
theorem regFile_ext {f g : RegFile} (h : ∀ a, readReg f a = readReg g a) : f = g := by
  apply Vector.ext
  intro i hi
  have := h (BitVec.ofNat 4 i)
  simpa [readReg, Nat.mod_eq_of_lt hi] using this

@[simp] theorem State.reg_setReg (s : State) (a b : RegAddr) (w : Word) :
    (s.setReg b w).reg a = if a = b then w else s.reg a := readReg_writeReg ..

@[simp] theorem State.reg_setQ (s : State) (a : RegAddr) (w : Word) : (s.setQ w).reg a = s.reg a := rfl

@[simp] theorem State.reg_clear (s : State) (a : RegAddr) : s.clear.reg a = 0 := readReg_zero a

@[simp] theorem State.reg_construction (c : Config) (a : RegAddr) : (State.construction c).reg a = 0 := readReg_zero a

@[simp] theorem State.reg_publish (s : State) (r : Routed) (o : AluOut) (a : RegAddr) :
    (s.publish r o).reg a = readReg r.rf a := rfl

/-- The compute step always answers a next state: what it is (R242). -/
theorem runCycle_eq (sel : State → Operands → OperandPair) (fn : Config → OperandPair → Bool → AluOut)
    (rt : LinkRule → State → Operands → Word → Routed) (lk : LinkRule) (x : Operands) (s : State) :
    runCycle sel fn rt lk x s =
      .next (s.publish (rt lk s x (fn s.cfg (sel s x) x.c0).f) (fn s.cfg (sel s x) x.c0)) := rfl

/-- Whichever row names it, an instruction runs the compute step of its micro-instruction. -/
theorem exec_eq_deliver (i : Instr) (s : State) :
    exec i s = .next (deliver i.micro.dst i.micro.link i.micro.ops s
      (resultOf i.micro.src i.micro.fn i.micro.ops s)) := by
  cases i <;> rfl

/-- A reading of a micro-instruction is that micro-instruction, and its row has the format asked for. -/
theorem reading_micro (f : Format) (m : Micro) : (reading f m).micro = m ∧ (reading f m).format = f := by
  obtain ⟨src, fn, dst, l, x⟩ := m
  cases f
  · cases src <;> exact ⟨rfl, rfl⟩
  · cases fn <;> exact ⟨rfl, rfl⟩
  · cases dst <;> exact ⟨rfl, rfl⟩
  · cases l <;> exact ⟨rfl, rfl⟩

/-- An instruction is the reading of its micro-instruction under its own format. -/
theorem reading_format_micro (i : Instr) : reading i.format i.micro = i := by cases i <;> rfl

/-- When the decoder answers, and what. -/
theorem decodeAs_ok (f : Format) (v : Variant) (p : Pins) (i : Instr) (h : decodeAs f v p = .ok i) :
    ¬ (f = .link ∧ v = .v4) ∧ i = reading f (microOfPins v p) := by
  unfold decodeAs at h
  split at h
  · cases h
  · next hn => exact ⟨hn, by cases h; rfl⟩

/-- The step of an empty input. -/
theorem step_nil (s : State) (h : s.pending = []) : step s = .next s := by
  simp [step, takeInvocation, h, idleStep]

/-- The step of an invocation: a clear, a compute or an idle step of the state without it. -/
theorem step_cons (s : State) (inv : Invocation) (rest : List Invocation) (h : s.pending = inv :: rest) :
    step s = match stepKind inv with
      | .clear => .next (State.clear { s with pending := rest })
      | .compute => exec (decode s.cfg.variant inv.pins) { s with pending := rest }
      | .idle => .next { s with pending := rest } := by
  cases hk : stepKind inv <;> simp only [step, takeInvocation, h, idleStep, hk]

/-- The three ways to construct: what is answered (R8, R9). -/
theorem construct_cases (w : Nat) (l : Bool) (o : OvrLogicMode) (d : V4ShiftDst) :
    (w = 4 ∧ l = false ∧ construct w l o d = .next (.construction ⟨.v4, o, d⟩)) ∨
    (w = 8 ∧ l = true ∧ construct w l o d = .next (.construction ⟨.v8, o, d⟩)) ∨
    (w = 4 ∧ l = true ∧ construct w l o d = .refused (.featureMismatch w)) ∨
    (w = 8 ∧ l = false ∧ construct w l o d = .refused (.featureMismatch w)) ∨
    (w ≠ 4 ∧ w ≠ 8 ∧ construct w l o d = .refused (.unsupportedWidth w)) := by
  by_cases h4 : w = 4
  · subst h4
    cases l <;> simp [construct]
  · by_cases h8 : w = 8
    · subst h8
      cases l <;> simp [construct]
    · simp [construct, h4, h8]

end Sys2Proof.Machine
end

