-- ==== Sys2Proof/Laws/Alu.lean ====
section
/-! SUPPORT. The word primitives and the ALU: what each answers, in numbers. -/

namespace Sys2Proof.Machine

/-- MOD is at most 256, so a residue fits the container word. -/
theorem modulus_le (v : Variant) : v.modulus ≤ 256 := by cases v <;> decide

theorem modulus_pos (v : Variant) : 0 < v.modulus := by cases v <;> decide

theorem mask_lt_modulus (v : Variant) : v.mask < v.modulus := by cases v <;> decide

/-- The residue of R131, as a number. -/
theorem reduce_toNat (v : Variant) (raw : Int) : ((reduce v raw).toNat : Int) = raw % (v.modulus : Int) := by
  have h0 := Int.emod_nonneg raw (b := (v.modulus : Int)) (by have := modulus_pos v; omega)
  have h1 := Int.emod_lt_of_pos raw (b := (v.modulus : Int)) (by have := modulus_pos v; omega)
  have h2 := modulus_le v
  simp only [reduce, BitVec.toNat_ofNat]
  omega

/-- The residue lies in [0, MASK]. -/
theorem reduce_le_mask (v : Variant) (raw : Int) : (reduce v raw).toNat ≤ v.mask := by
  have h := reduce_toNat v raw
  have h1 := Int.emod_lt_of_pos raw (b := (v.modulus : Int)) (by have := modulus_pos v; omega)
  unfold Variant.mask
  omega

/-- A word in range is its own residue. -/
theorem reduce_of_le_mask (v : Variant) (w : Word) (h : w.toNat ≤ v.mask) : reduce v w.toNat = w := by
  apply BitVec.eq_of_toNat_eq
  have h0 := reduce_toNat v w.toNat
  have h1 := mask_lt_modulus v
  rw [Int.emod_eq_of_lt (by omega) (by omega)] at h0
  omega

/-- The mask's bits below W are 1. -/
theorem maskWord_getLsbD (v : Variant) (k : Nat) (h : k < v.width) : (maskWord v).getLsbD k = true := by
  cases v
  · have : k < 4 := h
    interval_cases k <;> decide
  · have : k < 8 := h
    interval_cases k <;> decide

/-- The W-bit complement, bit by bit. -/
theorem compl_getLsbD (v : Variant) (x : Word) (k : Nat) (h : k < v.width) : (compl v x).getLsbD k = !x.getLsbD k := by
  have h8 : k < 8 := Nat.lt_of_lt_of_le h (by cases v <;> decide)
  simp [compl, maskWord_getLsbD v k h, h8]

/-- Every result of the ALU lies in [0, MASK] (R131). -/
theorem alu_f_le_mask (fn : Fn) (c : Config) (p : OperandPair) (c0 : Bool) : (alu fn c p c0).f.toNat ≤ c.variant.mask := by
  cases fn <;> exact reduce_le_mask _ _

/-- The lookahead chain is the carry of binary addition: the P term of R132 may be `or` in place of `xor`, since where they differ
G is 1 (R145). -/
theorem carryAt_eq_carry (rc sc : Word) (cin : Bool) (i : Nat) : carryAt rc sc cin i = BitVec.carry (i + 1) rc sc cin := by
  induction i with
  | zero =>
    rw [BitVec.carry_succ, BitVec.carry_zero]
    simp only [carryAt, BitVec.getLsbD_and, BitVec.getLsbD_or, Bool.atLeastTwo]
    cases rc.getLsbD 0 <;> cases sc.getLsbD 0 <;> cases cin <;> rfl
  | succ i ih =>
    rw [BitVec.carry_succ, ← ih]
    simp only [carryAt, BitVec.getLsbD_and, BitVec.getLsbD_or, Bool.atLeastTwo]
    cases rc.getLsbD (i + 1) <;> cases sc.getLsbD (i + 1) <;> cases carryAt rc sc cin i <;> rfl

/-- The operands a source row selects are in range, where the state is and the data word is (R110). -/
theorem select_le_mask (src : Src) (s : State) (x : Operands) (h : s.InRange) (hd : x.d.toNat ≤ s.cfg.variant.mask) :
    (select src s x).r.toNat ≤ s.cfg.variant.mask ∧ (select src s x).s.toNat ≤ s.cfg.variant.mask := by
  obtain ⟨hr, hq, -⟩ := h
  have ha := hr x.a
  have hb := hr x.b
  cases src <;> exact ⟨by first | assumption | exact Nat.zero_le _, by first | assumption | exact Nat.zero_le _⟩

end Sys2Proof.Machine
end

