-- ==== Sys2Proof/Laws/PerInstr.lean ====
section
/-! SUPPORT. Facts about every instruction as syntax, one lemma per constructor. -/

/-- An instruction's word holds the bits that its row of spec/opcode_table.json fixes: the row's match under the row's mask. -/
def Sys2Proof.Laws.TableRow.Statement : Sys2Proof.Instr → Prop
  | .aq fn dst m x => (Sys2Proof.encode (.aq fn dst m x)).i &&& 7#9 = 0#9
  | .ab fn dst m x => (Sys2Proof.encode (.ab fn dst m x)).i &&& 7#9 = 1#9
  | .zq fn dst m x => (Sys2Proof.encode (.zq fn dst m x)).i &&& 7#9 = 2#9
  | .zb fn dst m x => (Sys2Proof.encode (.zb fn dst m x)).i &&& 7#9 = 3#9
  | .za fn dst m x => (Sys2Proof.encode (.za fn dst m x)).i &&& 7#9 = 4#9
  | .da fn dst m x => (Sys2Proof.encode (.da fn dst m x)).i &&& 7#9 = 5#9
  | .dq fn dst m x => (Sys2Proof.encode (.dq fn dst m x)).i &&& 7#9 = 6#9
  | .dz fn dst m x => (Sys2Proof.encode (.dz fn dst m x)).i &&& 7#9 = 7#9
  | .add src dst m x => (Sys2Proof.encode (.add src dst m x)).i &&& 56#9 = 0#9
  | .subr src dst m x => (Sys2Proof.encode (.subr src dst m x)).i &&& 56#9 = 8#9
  | .subs src dst m x => (Sys2Proof.encode (.subs src dst m x)).i &&& 56#9 = 16#9
  | .or src dst m x => (Sys2Proof.encode (.or src dst m x)).i &&& 56#9 = 24#9
  | .and src dst m x => (Sys2Proof.encode (.and src dst m x)).i &&& 56#9 = 32#9
  | .notrs src dst m x => (Sys2Proof.encode (.notrs src dst m x)).i &&& 56#9 = 40#9
  | .exor src dst m x => (Sys2Proof.encode (.exor src dst m x)).i &&& 56#9 = 48#9
  | .exnor src dst m x => (Sys2Proof.encode (.exnor src dst m x)).i &&& 56#9 = 56#9
  | .qreg src fn m x => (Sys2Proof.encode (.qreg src fn m x)).i &&& 448#9 = 0#9
  | .nop src fn m x => (Sys2Proof.encode (.nop src fn m x)).i &&& 448#9 = 64#9
  | .rama src fn m x => (Sys2Proof.encode (.rama src fn m x)).i &&& 448#9 = 128#9
  | .ramf src fn m x => (Sys2Proof.encode (.ramf src fn m x)).i &&& 448#9 = 192#9
  | .srbq src fn m x => (Sys2Proof.encode (.srbq src fn m x)).i &&& 448#9 = 256#9
  | .srb src fn m x => (Sys2Proof.encode (.srb src fn m x)).i &&& 448#9 = 320#9
  | .slbq src fn m x => (Sys2Proof.encode (.slbq src fn m x)).i &&& 448#9 = 384#9
  | .slb src fn m x => (Sys2Proof.encode (.slb src fn m x)).i &&& 448#9 = 448#9
  | .lnone src fn dst x => (Sys2Proof.encode (.lnone src fn dst x)).m &&& 3#2 = 0#2
  | .lrot src fn dst x => (Sys2Proof.encode (.lrot src fn dst x)).m &&& 3#2 = 1#2
  | .lxfeed src fn dst x => (Sys2Proof.encode (.lxfeed src fn dst x)).m &&& 3#2 = 2#2
  | .loneway src fn dst x => (Sys2Proof.encode (.loneway src fn dst x)).m &&& 3#2 = 3#2

open Sys2Proof

/-- The three fields of a packed word, each under its mask. -/
theorem Sys2Proof.packFields_masked (d f s : BitVec 3) :
    packFields d f s &&& 7#9 = s.setWidth 9 ∧ packFields d f s &&& 56#9 = f.setWidth 9 <<< 3 ∧
      packFields d f s &&& 448#9 = d.setWidth 9 <<< 6 := by
  revert d f s
  decide

/-- The link code under its mask. -/
theorem Sys2Proof.linkCode_masked (l : Link) : linkCode l &&& 3#2 = linkCode l := by
  cases l <;> decide

theorem Sys2Proof.Laws.TableRow.aq (fn : Fn) (dst : Dst) (m : Link) (x : Operands) :
    Sys2Proof.Laws.TableRow.Statement (.aq fn dst m x) := (packFields_masked _ _ _).1

theorem Sys2Proof.Laws.TableRow.ab (fn : Fn) (dst : Dst) (m : Link) (x : Operands) :
    Sys2Proof.Laws.TableRow.Statement (.ab fn dst m x) := (packFields_masked _ _ _).1

theorem Sys2Proof.Laws.TableRow.zq (fn : Fn) (dst : Dst) (m : Link) (x : Operands) :
    Sys2Proof.Laws.TableRow.Statement (.zq fn dst m x) := (packFields_masked _ _ _).1

theorem Sys2Proof.Laws.TableRow.zb (fn : Fn) (dst : Dst) (m : Link) (x : Operands) :
    Sys2Proof.Laws.TableRow.Statement (.zb fn dst m x) := (packFields_masked _ _ _).1

theorem Sys2Proof.Laws.TableRow.za (fn : Fn) (dst : Dst) (m : Link) (x : Operands) :
    Sys2Proof.Laws.TableRow.Statement (.za fn dst m x) := (packFields_masked _ _ _).1

theorem Sys2Proof.Laws.TableRow.da (fn : Fn) (dst : Dst) (m : Link) (x : Operands) :
    Sys2Proof.Laws.TableRow.Statement (.da fn dst m x) := (packFields_masked _ _ _).1

theorem Sys2Proof.Laws.TableRow.dq (fn : Fn) (dst : Dst) (m : Link) (x : Operands) :
    Sys2Proof.Laws.TableRow.Statement (.dq fn dst m x) := (packFields_masked _ _ _).1

theorem Sys2Proof.Laws.TableRow.dz (fn : Fn) (dst : Dst) (m : Link) (x : Operands) :
    Sys2Proof.Laws.TableRow.Statement (.dz fn dst m x) := (packFields_masked _ _ _).1

theorem Sys2Proof.Laws.TableRow.add (src : Src) (dst : Dst) (m : Link) (x : Operands) :
    Sys2Proof.Laws.TableRow.Statement (.add src dst m x) := (packFields_masked _ _ _).2.1

theorem Sys2Proof.Laws.TableRow.subr (src : Src) (dst : Dst) (m : Link) (x : Operands) :
    Sys2Proof.Laws.TableRow.Statement (.subr src dst m x) := (packFields_masked _ _ _).2.1

theorem Sys2Proof.Laws.TableRow.subs (src : Src) (dst : Dst) (m : Link) (x : Operands) :
    Sys2Proof.Laws.TableRow.Statement (.subs src dst m x) := (packFields_masked _ _ _).2.1

theorem Sys2Proof.Laws.TableRow.or (src : Src) (dst : Dst) (m : Link) (x : Operands) :
    Sys2Proof.Laws.TableRow.Statement (.or src dst m x) := (packFields_masked _ _ _).2.1

theorem Sys2Proof.Laws.TableRow.and (src : Src) (dst : Dst) (m : Link) (x : Operands) :
    Sys2Proof.Laws.TableRow.Statement (.and src dst m x) := (packFields_masked _ _ _).2.1

theorem Sys2Proof.Laws.TableRow.notrs (src : Src) (dst : Dst) (m : Link) (x : Operands) :
    Sys2Proof.Laws.TableRow.Statement (.notrs src dst m x) := (packFields_masked _ _ _).2.1

theorem Sys2Proof.Laws.TableRow.exor (src : Src) (dst : Dst) (m : Link) (x : Operands) :
    Sys2Proof.Laws.TableRow.Statement (.exor src dst m x) := (packFields_masked _ _ _).2.1

theorem Sys2Proof.Laws.TableRow.exnor (src : Src) (dst : Dst) (m : Link) (x : Operands) :
    Sys2Proof.Laws.TableRow.Statement (.exnor src dst m x) := (packFields_masked _ _ _).2.1

theorem Sys2Proof.Laws.TableRow.qreg (src : Src) (fn : Fn) (m : Link) (x : Operands) :
    Sys2Proof.Laws.TableRow.Statement (.qreg src fn m x) := (packFields_masked _ _ _).2.2

theorem Sys2Proof.Laws.TableRow.nop (src : Src) (fn : Fn) (m : Link) (x : Operands) :
    Sys2Proof.Laws.TableRow.Statement (.nop src fn m x) := (packFields_masked _ _ _).2.2

theorem Sys2Proof.Laws.TableRow.rama (src : Src) (fn : Fn) (m : Link) (x : Operands) :
    Sys2Proof.Laws.TableRow.Statement (.rama src fn m x) := (packFields_masked _ _ _).2.2

theorem Sys2Proof.Laws.TableRow.ramf (src : Src) (fn : Fn) (m : Link) (x : Operands) :
    Sys2Proof.Laws.TableRow.Statement (.ramf src fn m x) := (packFields_masked _ _ _).2.2

theorem Sys2Proof.Laws.TableRow.srbq (src : Src) (fn : Fn) (m : Link) (x : Operands) :
    Sys2Proof.Laws.TableRow.Statement (.srbq src fn m x) := (packFields_masked _ _ _).2.2

theorem Sys2Proof.Laws.TableRow.srb (src : Src) (fn : Fn) (m : Link) (x : Operands) :
    Sys2Proof.Laws.TableRow.Statement (.srb src fn m x) := (packFields_masked _ _ _).2.2

theorem Sys2Proof.Laws.TableRow.slbq (src : Src) (fn : Fn) (m : Link) (x : Operands) :
    Sys2Proof.Laws.TableRow.Statement (.slbq src fn m x) := (packFields_masked _ _ _).2.2

theorem Sys2Proof.Laws.TableRow.slb (src : Src) (fn : Fn) (m : Link) (x : Operands) :
    Sys2Proof.Laws.TableRow.Statement (.slb src fn m x) := (packFields_masked _ _ _).2.2

theorem Sys2Proof.Laws.TableRow.lnone (src : Src) (fn : Fn) (dst : Dst) (x : Operands) :
    Sys2Proof.Laws.TableRow.Statement (.lnone src fn dst x) := linkCode_masked .lnone

theorem Sys2Proof.Laws.TableRow.lrot (src : Src) (fn : Fn) (dst : Dst) (x : Operands) :
    Sys2Proof.Laws.TableRow.Statement (.lrot src fn dst x) := linkCode_masked .lrot

theorem Sys2Proof.Laws.TableRow.lxfeed (src : Src) (fn : Fn) (dst : Dst) (x : Operands) :
    Sys2Proof.Laws.TableRow.Statement (.lxfeed src fn dst x) := linkCode_masked .lxfeed

theorem Sys2Proof.Laws.TableRow.loneway (src : Src) (fn : Fn) (dst : Dst) (x : Operands) :
    Sys2Proof.Laws.TableRow.Statement (.loneway src fn dst x) := linkCode_masked .loneway
end

