-- ==== Sys2Proof/Laws/Route.lean ====
section
/-! SUPPORT. The shift-link network, the router and the end of a cycle: what each answers. -/

namespace Sys2Proof.Machine

/-- The end of a cycle shows the ALU's flags and the router's bus value, whatever the boundary pins do (R242). -/
theorem publish_shows (s : State) (r : Routed) (a : AluOut) :
    (s.publish r a).ShowsFlags a ∧ (s.publish r a).out.y = some r.y := by
  obtain ⟨rf, q, y, b⟩ := r
  cases b <;> exact ⟨⟨rfl, rfl, rfl, rfl⟩, rfl⟩

/-- A route that drives no boundary pin leaves their latches (R214). -/
theorem publish_holds_boundary (s : State) (r : Routed) (a : AluOut) (h : r.boundary = none) :
    BoundaryHeld s (s.publish r a) := by
  obtain ⟨rf, q, y, b⟩ := r
  cases h
  exact ⟨rfl, rfl, rfl, rfl⟩

/-- The W-bit complement of a word in range, as a number. -/
theorem compl_toNat (v : Variant) (x : Word) (h : x.toNat ≤ v.mask) : (compl v x).toNat = v.mask - x.toNat := by
  have key : ∀ v ∈ [Variant.v4, .v8], ∀ x : Word, x.toNat ≤ v.mask → (compl v x).toNat = v.mask - x.toNat := by decide
  exact key v (by cases v <;> decide) x h

/-- The residue keeps the low W bits. -/
theorem reduce_getLsbD (v : Variant) (w : Word) (k : Nat) (h : k < v.width) :
    (reduce v w.toNat).getLsbD k = w.getLsbD k := by
  have e : (reduce v w.toNat).toNat = w.toNat % 2 ^ v.width := by exact_mod_cast reduce_toNat v w.toNat
  rw [BitVec.getLsbD, e, Nat.testBit_mod_two_pow]
  simp [h, BitVec.getLsbD]

/-- The sign test is bit W-1 (R134). -/
theorem half_le_iff (v : Variant) (x : Word) (h : x.toNat ≤ v.mask) :
    v.half ≤ x.toNat ↔ x.getLsbD (v.width - 1) = true := by
  have key : ∀ v ∈ [Variant.v4, .v8], ∀ x : Word, x.toNat ≤ v.mask →
      (v.half ≤ x.toNat ↔ x.getLsbD (v.width - 1) = true) := by decide
  exact key v (by cases v <;> decide) x h

/-- The raw shift of a unit with its vacated bit set, or left 0 (R203, R209). -/
theorem shiftUnit_moved (right : Bool) (x : Word) (b : Bool) :
    MovedOneBit right x (setBit (shiftUnit right x) (vacated right) b) b ∧
      MovedOneBit right x (shiftUnit right x) false := by
  revert right x b
  decide

/-- The raw shift of a unit, and that with its vacated bit set, as numbers (R203). -/
theorem shiftUnit_toNat (x : Word) (b : Bool) :
    (shiftUnit true x).toNat = x.toNat / 2 ∧ (shiftUnit false x).toNat = 2 * x.toNat % 256 ∧
      (setBit (shiftUnit true x) 7 b).toNat = x.toNat / 2 + b.toNat * 128 ∧
      (setBit (shiftUnit false x) 0 b).toNat = 2 * x.toNat % 256 + b.toNat := by
  revert x b
  decide

/-- The end bits of a word, as numbers (R202). -/
theorem endBits_toNat (x : Word) : (x.getLsbD 0).toNat = x.toNat % 2 ∧ (x.getLsbD 7).toNat = x.toNat / 128 := by
  revert x
  decide

/-- A shift code on V8 (R212, R213). -/
theorem routeShift_v8 (right both : Bool) (lk : LinkRule) (s : State) (x : Operands) (f : Word)
    (h : s.cfg.variant = .v8) :
    routeShift right both lk s x f =
      ⟨writeReg s.rf x.b (lk right both (s.reg x.b) s.q).r, (lk right both (s.reg x.b) s.q).q, f,
        some (boundaryOf (lk right both (s.reg x.b) s.q))⟩ := by
  simp only [routeShift, h]

/-- A shift code on V4 (R179): no link rule is read, no boundary pin driven, Q is left. -/
theorem routeShift_v4 (right both : Bool) (lk : LinkRule) (s : State) (x : Operands) (f : Word)
    (h : s.cfg.variant = .v4) :
    routeShift right both lk s x f =
      ⟨if s.cfg.v4ShiftDst = .writeF then writeReg s.rf x.b f else s.rf, s.q,
        if s.cfg.v4ShiftDst = .nopZero then 0 else f, none⟩ := by
  cases hd : s.cfg.v4ShiftDst <;> simp only [routeShift, h, hd] <;> rfl

/-- A destination row that shifts is `routeShift` with its two flags (R201). -/
theorem route_of_shiftFlags (dst : Dst) (lk : LinkRule) (s : State) (x : Operands) (right both : Bool)
    (h : shiftFlags dst = some (right, both)) : route dst lk s x = routeShift right both lk s x := by
  cases dst <;> cases h <;> rfl

end Sys2Proof.Machine
end

