-- ==== Sys2Proof/Tests/Slice0.lean ====
section
/-! SUPPORT. The model's own tests: words written out from the encoding tables of R84, one step each on the vectors of
spec/95_test_vectors.md, and a state and operands that meet the hypotheses of each statement. -/

namespace Sys2Proof.Tests

open Sys2Proof.Machine

/-! ## Well-formedness: each check refuses an ill-formed term (R15, R81, R87) -/

theorem test_data_too_wide_refused : dataFits .v4 (.dz .or .ramf .lnone ⟨0, 1, 16, false⟩) = false := by decide
theorem test_link_field_on_v4_refused : linkFieldExists .v4 (.srbq .zb .or .lrot ⟨0, 1, 0, false⟩) = false := by decide
theorem test_link_row_on_v4_refused : rowExists .v4 (.lnone .zb .or .srbq ⟨0, 1, 0, false⟩) = false := by decide
theorem test_well_formed_on_v4 : WellFormed .v4 (.dz .or .ramf .lnone ⟨0, 1, 15, false⟩) := by decide
theorem test_well_formed_on_v8 : WellFormed .v8 (.loneway .zb .or .srbq ⟨0, 1, 255, false⟩) := by decide

/-! ## Decoding: one word for every row, its fields written from R84's tables (dst, fn, src; M) -/

theorem test_decode_aq : decodeAs .src .v8 ⟨0b010_011_000#9, 9, 6, 0xA5, true, 0b01#2⟩ = .ok (.aq .or .rama .lrot ⟨9, 6, 0xA5, true⟩) := rfl
theorem test_decode_ab : decodeAs .src .v8 ⟨0b001_000_001#9, 9, 6, 0xA5, true, 0b10#2⟩ = .ok (.ab .add .nop .lxfeed ⟨9, 6, 0xA5, true⟩) := rfl
theorem test_decode_zq : decodeAs .src .v8 ⟨0b000_101_010#9, 9, 6, 0xA5, true, 0b11#2⟩ = .ok (.zq .notrs .qreg .loneway ⟨9, 6, 0xA5, true⟩) := rfl
theorem test_decode_zb : decodeAs .src .v8 ⟨0b111_010_011#9, 9, 6, 0xA5, true, 0b00#2⟩ = .ok (.zb .subs .slb .lnone ⟨9, 6, 0xA5, true⟩) := rfl
theorem test_decode_za : decodeAs .src .v8 ⟨0b110_111_100#9, 9, 6, 0xA5, true, 0b01#2⟩ = .ok (.za .exnor .slbq .lrot ⟨9, 6, 0xA5, true⟩) := rfl
theorem test_decode_da : decodeAs .src .v8 ⟨0b101_100_101#9, 9, 6, 0xA5, true, 0b10#2⟩ = .ok (.da .and .srb .lxfeed ⟨9, 6, 0xA5, true⟩) := rfl
theorem test_decode_dq : decodeAs .src .v8 ⟨0b100_001_110#9, 9, 6, 0xA5, true, 0b11#2⟩ = .ok (.dq .subr .srbq .loneway ⟨9, 6, 0xA5, true⟩) := rfl
theorem test_decode_dz : decodeAs .src .v8 ⟨0b011_110_111#9, 9, 6, 0xA5, true, 0b00#2⟩ = .ok (.dz .exor .ramf .lnone ⟨9, 6, 0xA5, true⟩) := rfl
theorem test_decode_add : decodeAs .fn .v8 ⟨0b010_000_101#9, 9, 6, 0xA5, true, 0b01#2⟩ = .ok (.add .da .rama .lrot ⟨9, 6, 0xA5, true⟩) := rfl
theorem test_decode_subr : decodeAs .fn .v8 ⟨0b001_001_000#9, 9, 6, 0xA5, true, 0b10#2⟩ = .ok (.subr .aq .nop .lxfeed ⟨9, 6, 0xA5, true⟩) := rfl
theorem test_decode_subs : decodeAs .fn .v8 ⟨0b000_010_011#9, 9, 6, 0xA5, true, 0b11#2⟩ = .ok (.subs .zb .qreg .loneway ⟨9, 6, 0xA5, true⟩) := rfl
theorem test_decode_or : decodeAs .fn .v8 ⟨0b111_011_110#9, 9, 6, 0xA5, true, 0b00#2⟩ = .ok (.or .dq .slb .lnone ⟨9, 6, 0xA5, true⟩) := rfl
theorem test_decode_and : decodeAs .fn .v8 ⟨0b110_100_001#9, 9, 6, 0xA5, true, 0b01#2⟩ = .ok (.and .ab .slbq .lrot ⟨9, 6, 0xA5, true⟩) := rfl
theorem test_decode_notrs : decodeAs .fn .v8 ⟨0b101_101_100#9, 9, 6, 0xA5, true, 0b10#2⟩ = .ok (.notrs .za .srb .lxfeed ⟨9, 6, 0xA5, true⟩) := rfl
theorem test_decode_exor : decodeAs .fn .v8 ⟨0b100_110_111#9, 9, 6, 0xA5, true, 0b11#2⟩ = .ok (.exor .dz .srbq .loneway ⟨9, 6, 0xA5, true⟩) := rfl
theorem test_decode_exnor : decodeAs .fn .v8 ⟨0b011_111_010#9, 9, 6, 0xA5, true, 0b00#2⟩ = .ok (.exnor .zq .ramf .lnone ⟨9, 6, 0xA5, true⟩) := rfl
theorem test_decode_qreg : decodeAs .dst .v8 ⟨0b000_011_101#9, 9, 6, 0xA5, true, 0b01#2⟩ = .ok (.qreg .da .or .lrot ⟨9, 6, 0xA5, true⟩) := rfl
theorem test_decode_nop : decodeAs .dst .v8 ⟨0b001_000_000#9, 9, 6, 0xA5, true, 0b10#2⟩ = .ok (.nop .aq .add .lxfeed ⟨9, 6, 0xA5, true⟩) := rfl
theorem test_decode_rama : decodeAs .dst .v8 ⟨0b010_101_011#9, 9, 6, 0xA5, true, 0b11#2⟩ = .ok (.rama .zb .notrs .loneway ⟨9, 6, 0xA5, true⟩) := rfl
theorem test_decode_ramf : decodeAs .dst .v8 ⟨0b011_010_110#9, 9, 6, 0xA5, true, 0b00#2⟩ = .ok (.ramf .dq .subs .lnone ⟨9, 6, 0xA5, true⟩) := rfl
theorem test_decode_srbq : decodeAs .dst .v8 ⟨0b100_111_001#9, 9, 6, 0xA5, true, 0b01#2⟩ = .ok (.srbq .ab .exnor .lrot ⟨9, 6, 0xA5, true⟩) := rfl
theorem test_decode_srb : decodeAs .dst .v8 ⟨0b101_100_100#9, 9, 6, 0xA5, true, 0b10#2⟩ = .ok (.srb .za .and .lxfeed ⟨9, 6, 0xA5, true⟩) := rfl
theorem test_decode_slbq : decodeAs .dst .v8 ⟨0b110_001_111#9, 9, 6, 0xA5, true, 0b11#2⟩ = .ok (.slbq .dz .subr .loneway ⟨9, 6, 0xA5, true⟩) := rfl
theorem test_decode_slb : decodeAs .dst .v8 ⟨0b111_110_010#9, 9, 6, 0xA5, true, 0b00#2⟩ = .ok (.slb .zq .exor .lnone ⟨9, 6, 0xA5, true⟩) := rfl
theorem test_decode_lnone : decodeAs .link .v8 ⟨0b010_011_101#9, 9, 6, 0xA5, true, 0b00#2⟩ = .ok (.lnone .da .or .rama ⟨9, 6, 0xA5, true⟩) := rfl
theorem test_decode_lrot : decodeAs .link .v8 ⟨0b001_000_000#9, 9, 6, 0xA5, true, 0b01#2⟩ = .ok (.lrot .aq .add .nop ⟨9, 6, 0xA5, true⟩) := rfl
theorem test_decode_lxfeed : decodeAs .link .v8 ⟨0b000_101_011#9, 9, 6, 0xA5, true, 0b10#2⟩ = .ok (.lxfeed .zb .notrs .qreg ⟨9, 6, 0xA5, true⟩) := rfl
theorem test_decode_loneway : decodeAs .link .v8 ⟨0b111_010_110#9, 9, 6, 0xA5, true, 0b11#2⟩ = .ok (.loneway .dq .subs .slb ⟨9, 6, 0xA5, true⟩) := rfl

/-- R87's example, `DZ OR RAMF B=1 D=5` = 223. -/
theorem test_decode_r87_example : decode .v4 ⟨223, 0, 1, 5, false, 0⟩ = .ramf .dz .or .lnone ⟨0, 1, 5, false⟩ := by decide

/-- V4 has no M pins and no D[7:4]: what stands there is not read (R41, R81). -/
theorem test_decode_v4_reads_its_own_pins :
    decodeAs .dst .v4 ⟨0b100_011_011#9, 0, 4, 0xF9, false, 3⟩ = .ok (.srbq .zb .or .lnone ⟨0, 4, 9, false⟩) := rfl

theorem test_decode_v4_link_row_rejected : decodeAs .link .v4 ⟨0, 0, 0, 0, false, 1⟩ = .error .noLinkPins := rfl
theorem test_table_word_src : decodeTableWord 16 7 = some (.dz .add .qreg .lnone ⟨0, 0, 0, false⟩) := by decide
theorem test_table_word_fn : decodeTableWord 16 56 = some (.exnor .aq .qreg .lnone ⟨0, 0, 0, false⟩) := by decide
theorem test_table_word_dst : decodeTableWord 16 448 = some (.slb .aq .add .lnone ⟨0, 0, 0, false⟩) := by decide
theorem test_table_word_link : decodeTableWord 8 3 = some (.loneway .aq .add .qreg ⟨0, 0, 0, false⟩) := by decide
theorem test_table_word_too_wide : decodeTable 16 512 = .error .fieldTooWide := rfl
theorem test_encode_r87_example : (encode (.dz .or .ramf .lnone ⟨0, 1, 5, false⟩)).i = 223 := by decide

/-! ## One step of each row, on the vectors of spec/95_test_vectors.md -/

/-- A state with two registers and Q given, the rest as at construction. -/
def st (v : Variant) (a : RegAddr) (ra : Word) (b : RegAddr) (rb q : Word) : State :=
  (((State.construction (.ofVariant v)).setReg a ra).setReg b rb).setQ q

/-- The state after, where there is one. -/
def nextOf : Host.Outcome State Fault Refusal → Option State
  | .next t => some t
  | .fault _ => none
  | .refused _ => none

/-- Y, C4, F3, OVR and Z after a step, in the columns' order of the tables 2.2 and 2.3. -/
def shown (r : Host.Outcome State Fault Refusal) : Option (List (Option Nat)) :=
  (nextOf r).map fun t => [t.out.y.map BitVec.toNat, t.out.c4.map Bool.toNat, t.out.f3.map Bool.toNat,
    t.out.ovr.map Bool.toNat, t.out.z.map Bool.toNat]

/-- Y, RF[b], Q and the boundary pins RL RM QL QM after a step, in the columns' order of the tables 2.4 and 2.5. -/
def routed (b : RegAddr) (r : Host.Outcome State Fault Refusal) : Option (List (Option Nat)) :=
  (nextOf r).map fun t => [t.out.y.map BitVec.toNat, some (t.reg b).toNat, some t.q.toNat, t.out.rl.map Bool.toNat,
    t.out.rm.map Bool.toNat, t.out.ql.map Bool.toNat, t.out.qm.map Bool.toNat]

/-- The start state of table 2.1: RF[2] = 8, RF[5] = 1, Q = 9. -/
def selState : State := st .v4 2 8 5 1 9

/-- Table 2.1: R = 8, S = 9, shown by R - S. -/
theorem test_select_aq : (nextOf (exec (.aq .subs .nop .lnone ⟨2, 5, 12, true⟩) selState)).map (·.out.y) = some (some 15) := by decide
/-- Table 2.1: R = 8, S = 1, shown by R - S. -/
theorem test_select_ab : (nextOf (exec (.ab .subs .nop .lnone ⟨2, 5, 12, true⟩) selState)).map (·.out.y) = some (some 7) := by decide
/-- Table 2.1: R = 0, S = 9, shown by R - S. -/
theorem test_select_zq : (nextOf (exec (.zq .subs .nop .lnone ⟨2, 5, 12, true⟩) selState)).map (·.out.y) = some (some 7) := by decide
/-- Table 2.1: R = 0, S = 1, shown by R - S. -/
theorem test_select_zb : (nextOf (exec (.zb .subs .nop .lnone ⟨2, 5, 12, true⟩) selState)).map (·.out.y) = some (some 15) := by decide
/-- Table 2.1: R = 0, S = 8, shown by R - S. -/
theorem test_select_za : (nextOf (exec (.za .subs .nop .lnone ⟨2, 5, 12, true⟩) selState)).map (·.out.y) = some (some 8) := by decide
/-- Table 2.1: R = 12, S = 8, shown by R - S. -/
theorem test_select_da : (nextOf (exec (.da .subs .nop .lnone ⟨2, 5, 12, true⟩) selState)).map (·.out.y) = some (some 4) := by decide
/-- Table 2.1: R = 12, S = 9, shown by R - S. -/
theorem test_select_dq : (nextOf (exec (.dq .subs .nop .lnone ⟨2, 5, 12, true⟩) selState)).map (·.out.y) = some (some 3) := by decide
/-- Table 2.1: R = 12, S = 0, shown by R - S. -/
theorem test_select_dz : (nextOf (exec (.dz .subs .nop .lnone ⟨2, 5, 12, true⟩) selState)).map (·.out.y) = some (some 12) := by decide

/-- Table 2.2, R = 15, S = 0, C0 = 1. -/
theorem test_alu_add_v4 : shown (exec (.add .da .nop .lnone ⟨1, 0, 15, true⟩) (st .v4 1 0 0 0 0)) =
    some [some 0, some 0, some 0, some 0, some 1] := by decide
/-- Table 2.2, R = 0, S = 0, C0 = 0. -/
theorem test_alu_subr_v4 : shown (exec (.subr .da .nop .lnone ⟨1, 0, 0, false⟩) (st .v4 1 0 0 0 0)) =
    some [some 15, some 1, some 1, some 0, some 0] := by decide
/-- Table 2.2, R = 3, S = 5, C0 = 1. -/
theorem test_alu_subs_v4 : shown (exec (.subs .da .nop .lnone ⟨1, 0, 3, true⟩) (st .v4 1 5 0 0 0)) =
    some [some 14, some 0, some 1, some 0, some 0] := by decide
/-- Table 2.2, R = 8, S = 8, C0 = 0. -/
theorem test_alu_or_v4 : shown (exec (.or .da .nop .lnone ⟨1, 0, 8, false⟩) (st .v4 1 8 0 0 0)) =
    some [some 8, some 1, some 1, some 0, some 0] := by decide
/-- Table 2.2, R = 12, S = 10, C0 = 0. -/
theorem test_alu_and_v4 : shown (exec (.and .da .nop .lnone ⟨1, 0, 12, false⟩) (st .v4 1 10 0 0 0)) =
    some [some 8, some 1, some 1, some 0, some 0] := by decide
/-- Table 2.2, R = 12, S = 10, C0 = 0. -/
theorem test_alu_notrs_v4 : shown (exec (.notrs .da .nop .lnone ⟨1, 0, 12, false⟩) (st .v4 1 10 0 0 0)) =
    some [some 2, some 1, some 0, some 1, some 0] := by decide
/-- Table 2.2, R = 8, S = 8, C0 = 0. -/
theorem test_alu_exor_v4 : shown (exec (.exor .da .nop .lnone ⟨1, 0, 8, false⟩) (st .v4 1 8 0 0 0)) =
    some [some 0, some 1, some 0, some 1, some 1] := by decide
/-- Table 2.2, R = 0, S = 0, C0 = 0. -/
theorem test_alu_exnor_v4 : shown (exec (.exnor .da .nop .lnone ⟨1, 0, 0, false⟩) (st .v4 1 0 0 0 0)) =
    some [some 15, some 0, some 1, some 1, some 0] := by decide
/-- Table 2.3, R = 200, S = 100, C0 = 1. -/
theorem test_alu_add_v8 : shown (exec (.add .da .nop .lnone ⟨1, 0, 200, true⟩) (st .v8 1 100 0 0 0)) =
    some [some 45, some 1, some 0, some 0, some 0] := by decide
/-- Table 2.3, R = 240, S = 15, C0 = 0. -/
theorem test_alu_subr_v8 : shown (exec (.subr .da .nop .lnone ⟨1, 0, 240, false⟩) (st .v8 1 15 0 0 0)) =
    some [some 30, some 0, some 0, some 0, some 0] := by decide
/-- Table 2.3, R = 85, S = 170, C0 = 0. -/
theorem test_alu_subs_v8 : shown (exec (.subs .da .nop .lnone ⟨1, 0, 85, false⟩) (st .v8 1 170 0 0 0)) =
    some [some 170, some 0, some 1, some 0, some 0] := by decide
/-- Table 2.3, R = 240, S = 15, C0 = 0. -/
theorem test_alu_or_v8 : shown (exec (.or .da .nop .lnone ⟨1, 0, 240, false⟩) (st .v8 1 15 0 0 0)) =
    some [some 255, some 0, some 1, some 0, some 0] := by decide
/-- Table 2.3, R = 85, S = 170, C0 = 0. -/
theorem test_alu_and_v8 : shown (exec (.and .da .nop .lnone ⟨1, 0, 85, false⟩) (st .v8 1 170 0 0 0)) =
    some [some 0, some 0, some 0, some 0, some 1] := by decide
/-- Table 2.3, R = 240, S = 15, C0 = 0. -/
theorem test_alu_notrs_v8 : shown (exec (.notrs .da .nop .lnone ⟨1, 0, 240, false⟩) (st .v8 1 15 0 0 0)) =
    some [some 15, some 0, some 0, some 0, some 0] := by decide
/-- Table 2.3, R = 255, S = 1, C0 = 0. -/
theorem test_alu_exor_v8 : shown (exec (.exor .da .nop .lnone ⟨1, 0, 255, false⟩) (st .v8 1 1 0 0 0)) =
    some [some 254, some 1, some 1, some 0, some 0] := by decide
/-- Table 2.3, R = 127, S = 127, C0 = 0. -/
theorem test_alu_exnor_v8 : shown (exec (.exnor .da .nop .lnone ⟨1, 0, 127, false⟩) (st .v8 1 127 0 0 0)) =
    some [some 255, some 0, some 1, some 1, some 0] := by decide

/-- The start state of the V8 table of 2.4: RF[1] = 8, RF[6] = 0b10100101, Q = 0b00111100. -/
def routeState8 : State := st .v8 1 8 6 0b10100101 0b00111100

/-- The start state of the V4 table of 2.4: RF[1] = 8, RF[6] = 0b1001, Q = 0b1100. -/
def routeState4 : State := st .v4 1 8 6 0b1001 0b1100

theorem test_route_qreg_v8 : routed 6 (exec (.qreg .dz .or .lrot ⟨1, 6, 17, false⟩) routeState8) =
    some [some 17, some 0b10100101, some 0b00010001, none, none, none, none] := by decide
theorem test_route_nop_v8 : routed 6 (exec (.nop .dz .or .lrot ⟨1, 6, 17, false⟩) routeState8) =
    some [some 17, some 0b10100101, some 0b00111100, none, none, none, none] := by decide
theorem test_route_rama_v8 : routed 6 (exec (.rama .dz .or .lrot ⟨1, 6, 17, false⟩) routeState8) =
    some [some 8, some 0b00010001, some 0b00111100, none, none, none, none] := by decide
theorem test_route_ramf_v8 : routed 6 (exec (.ramf .dz .or .lrot ⟨1, 6, 17, false⟩) routeState8) =
    some [some 17, some 0b00010001, some 0b00111100, none, none, none, none] := by decide
theorem test_route_srbq_v8 : routed 6 (exec (.srbq .dz .or .lrot ⟨1, 6, 17, false⟩) routeState8) =
    some [some 17, some 0b11010010, some 0b00011110, some 0, some 1, some 0, some 0] := by decide
theorem test_route_srb_v8 : routed 6 (exec (.srb .dz .or .lrot ⟨1, 6, 17, false⟩) routeState8) =
    some [some 17, some 0b11010010, some 0b00111100, some 0, some 1, some 0, some 0] := by decide
theorem test_route_slbq_v8 : routed 6 (exec (.slbq .dz .or .lrot ⟨1, 6, 17, false⟩) routeState8) =
    some [some 17, some 0b01001011, some 0b01111000, some 1, some 0, some 0, some 0] := by decide
theorem test_route_slb_v8 : routed 6 (exec (.slb .dz .or .lrot ⟨1, 6, 17, false⟩) routeState8) =
    some [some 17, some 0b01001011, some 0b00111100, some 1, some 0, some 0, some 0] := by decide
theorem test_route_qreg_v4 : routed 6 (exec (.qreg .dz .or .lnone ⟨1, 6, 3, false⟩) routeState4) =
    some [some 3, some 0b1001, some 0b0011, none, none, none, none] := by decide
theorem test_route_nop_v4 : routed 6 (exec (.nop .dz .or .lnone ⟨1, 6, 3, false⟩) routeState4) =
    some [some 3, some 0b1001, some 0b1100, none, none, none, none] := by decide
theorem test_route_rama_v4 : routed 6 (exec (.rama .dz .or .lnone ⟨1, 6, 3, false⟩) routeState4) =
    some [some 8, some 0b0011, some 0b1100, none, none, none, none] := by decide
theorem test_route_ramf_v4 : routed 6 (exec (.ramf .dz .or .lnone ⟨1, 6, 3, false⟩) routeState4) =
    some [some 3, some 0b0011, some 0b1100, none, none, none, none] := by decide
theorem test_route_srbq_v4 : routed 6 (exec (.srbq .dz .or .lnone ⟨1, 6, 3, false⟩) routeState4) =
    some [some 3, some 0b1001, some 0b1100, none, none, none, none] := by decide
theorem test_route_srb_v4 : routed 6 (exec (.srb .dz .or .lnone ⟨1, 6, 3, false⟩) routeState4) =
    some [some 3, some 0b1001, some 0b1100, none, none, none, none] := by decide
theorem test_route_slbq_v4 : routed 6 (exec (.slbq .dz .or .lnone ⟨1, 6, 3, false⟩) routeState4) =
    some [some 3, some 0b1001, some 0b1100, none, none, none, none] := by decide
theorem test_route_slb_v4 : routed 6 (exec (.slb .dz .or .lnone ⟨1, 6, 3, false⟩) routeState4) =
    some [some 3, some 0b1001, some 0b1100, none, none, none, none] := by decide

/-- Table 2.5, r = 0b00000001, q = 0b10000000; Y is F = r OR 0. -/
theorem test_lxfeed_srbq : routed 3 (exec (.lxfeed .zb .or .srbq ⟨0, 3, 0, false⟩) (st .v8 0 0 3 0b00000001 0b10000000)) =
    some [some 0b00000001, some 0b00000000, some 0b11000000, some 0, some 0, some 0, some 1] := by decide
/-- Table 2.5, r = 0b00000001, q = 0b10000000; Y is F = r OR 0. -/
theorem test_loneway_srbq : routed 3 (exec (.loneway .zb .or .srbq ⟨0, 3, 0, false⟩) (st .v8 0 0 3 0b00000001 0b10000000)) =
    some [some 0b00000001, some 0b00000000, some 0b11000000, some 0, some 0, some 0, some 1] := by decide
/-- Table 2.5, r = 0b00000001, q = 0b10000000; Y is F = r OR 0. -/
theorem test_lrot_srb : routed 3 (exec (.lrot .zb .or .srb ⟨0, 3, 0, false⟩) (st .v8 0 0 3 0b00000001 0b10000000)) =
    some [some 0b00000001, some 0b10000000, some 0b10000000, some 0, some 1, some 0, some 1] := by decide
/-- Table 2.5, r = 0b00000001, q = 0b10000000; Y is F = r OR 0. -/
theorem test_loneway_slbq : routed 3 (exec (.loneway .zb .or .slbq ⟨0, 3, 0, false⟩) (st .v8 0 0 3 0b00000001 0b10000000)) =
    some [some 0b00000001, some 0b00000011, some 0b00000000, some 1, some 0, some 0, some 0] := by decide
/-- Table 2.5, r = 0b00000001, q = 0b10000000; Y is F = r OR 0. -/
theorem test_lnone_slb : routed 3 (exec (.lnone .zb .or .slb ⟨0, 3, 0, false⟩) (st .v8 0 0 3 0b00000001 0b10000000)) =
    some [some 0b00000001, some 0b00000010, some 0b10000000, some 0, some 0, some 0, some 1] := by decide
/-- Table 2.5, r = 0b00000001, q = 0b10000000; Y is F = r OR 0. -/
theorem test_lxfeed_slb : routed 3 (exec (.lxfeed .zb .or .slb ⟨0, 3, 0, false⟩) (st .v8 0 0 3 0b00000001 0b10000000)) =
    some [some 0b00000001, some 0b00000011, some 0b10000000, some 1, some 0, some 0, some 1] := by decide
/-- Table 2.5, r = 0b10000000, q = 0b00000001; Y is F = r OR 0. -/
theorem test_lnone_srbq : routed 3 (exec (.lnone .zb .or .srbq ⟨0, 3, 0, false⟩) (st .v8 0 0 3 0b10000000 0b00000001)) =
    some [some 0b10000000, some 0b01000000, some 0b00000000, some 0, some 0, some 0, some 0] := by decide
/-- Table 2.5, r = 0b10000000, q = 0b00000001; Y is F = r OR 0. -/
theorem test_lrot_slbq : routed 3 (exec (.lrot .zb .or .slbq ⟨0, 3, 0, false⟩) (st .v8 0 0 3 0b10000000 0b00000001)) =
    some [some 0b10000000, some 0b00000001, some 0b00000010, some 1, some 0, some 0, some 0] := by decide

/-! ## The kinds of step (2.6) and the behaviour parameters (I3, I4) -/

/-- C1: clear wins over a rising edge. -/
theorem test_clear_wins : (nextOf (step ((st .v4 1 7 2 7 3).offer ⟨true, true, ⟨223, 0, 1, 5, false, 0⟩⟩))).map
    (fun t => (t.reg 1, t.reg 2, t.q, t.out)) = some (0, 0, 0, .unknown) := by decide

/-- C4: a falling edge changes nothing. -/
theorem test_idle_keeps : (nextOf (step ((st .v4 2 9 0 0 0).offer ⟨false, false, ⟨223, 0, 2, 4, false, 0⟩⟩))) =
    some (st .v4 2 9 0 0 0) := by decide

/-- C6: `DZ ADD RAMF B=0 D=15 C0=1` on V4: C0 is not in the chain. -/
theorem test_compute_step : shown (step ((st .v4 1 0 0 0 0).offer ⟨false, true, ⟨0b011_000_111#9, 0, 0, 15, true, 0⟩⟩)) =
    some [some 0, some 0, some 0, some 0, some 1] := by decide

/-- A placed table word runs: `DZ OR QREG` with D = 0 after reset. -/
theorem test_placed_word_runs : shown (step (State.reset.withFetchWord 16 0b000_011_111)) =
    some [some 0, some 0, some 0, some 0, some 1] := by decide

/-- I4: under OVR_LOGIC_MODE `false`, E3 holds for EXNOR. -/
theorem test_ovr_forced_false : (nextOf (exec (.exnor .dz .nop .lnone ⟨0, 0, 0, false⟩)
    (.construction ⟨.v4, .forcedFalse, .nopF⟩))).map (·.out.ovr) = some (some false) := by decide

/-- I3: under `write_F`, RF[6] becomes 3 (the note to the V4 table of 2.4). -/
theorem test_v4_shift_write_f : (nextOf (exec (.srb .dz .or .lnone ⟨1, 6, 3, false⟩)
    { routeState4 with cfg := ⟨.v4, .formula, .writeF⟩ })).map (fun t => (t.out.y, t.reg 6)) = some (some 3, 3) := by decide

/-- I3: under `nop_zero`, Y is 0. -/
theorem test_v4_shift_nop_zero : (nextOf (exec (.slb .dz .or .lnone ⟨1, 6, 3, false⟩)
    { routeState4 with cfg := ⟨.v4, .formula, .nopZero⟩ })).map (fun t => (t.out.y, t.reg 6)) = some (some 0, 9) := by decide

theorem test_construct_v4 : construct 4 false .formula .nopF = .next (.construction (.ofVariant .v4)) := rfl
theorem test_construct_width_5_refused : construct 5 true .formula .nopF = .refused (.unsupportedWidth 5) := rfl

/-! ## Witnesses: for each statement with hypotheses, a state and operands that meet them -/

/-- An invocation of `DZ OR RAMF A=0 B=1 D=5`. -/
def inv (clr rising : Bool) : Invocation := ⟨clr, rising, ⟨223, 0, 1, 5, false, 0⟩⟩

/-- V4 and V8 states at the ends of the range. -/
def low4 : State := st .v4 1 15 2 8 15
def high8 : State := st .v8 1 255 2 128 255

/-- A state with one invocation to come. -/
def waiting (v : Variant) (i : Invocation) : State := (st v 1 7 2 1 3).offer i

theorem witness_ClearStepZeroesAndNeverComputes :
    (waiting .v8 (inv true true)).pending = inv true true :: [] ∧ (inv true true).clr = true := by decide
theorem witness_AssertedOeLevelClears_clear :
    let v : Invocation := ⟨clrOfLevel Config.oeAssertedLevel, true, ⟨223, 0, 1, 5, false, 0⟩⟩
    (waiting .v8 v).pending = v :: [] ∧ v.clr = clrOfLevel Config.oeAssertedLevel := ⟨rfl, rfl⟩
theorem witness_AssertedOeLevelClears_otherLevel :
    let oe : Level := if Config.oeAssertedLevel = .high then .low else .high
    let up : Invocation := ⟨clrOfLevel oe, true, ⟨223, 0, 1, 5, false, 0⟩⟩
    let idle : Invocation := { up with rising := false }
    oe ≠ Config.oeAssertedLevel ∧ (waiting .v8 up).pending = up :: [] ∧ (waiting .v4 idle).pending = idle :: [] ∧
      up.clr = clrOfLevel oe ∧ idle.clr = clrOfLevel oe :=
  ⟨by cases Config.oeAssertedLevel <;> decide, rfl, rfl, rfl, rfl⟩
theorem witness_IdleStepChangesNothing :
    (waiting .v4 (inv false false)).pending = inv false false :: [] ∧ (inv false false).clr = false ∧
      (inv false false).rising = false := by decide
theorem witness_NoInvocationNoChange : low4.pending = [] := by decide
theorem witness_ComputeStepRunsTheDecodedInstruction :
    (waiting .v4 (inv false true)).pending = inv false true :: [] ∧ (inv false true).clr = false ∧
      (inv false true).rising = true ∧
      decodeAs .fn (waiting .v4 (inv false true)).cfg.variant (inv false true).pins =
        .ok (.or .dz .ramf .lnone ⟨0, 1, 5, false⟩) := ⟨rfl, rfl, rfl, rfl⟩
theorem witness_EveryRowNamesTheSameCycle :
    (Instr.or .dz .ramf .lnone ⟨0, 1, 5, false⟩).micro = (Instr.ramf .dz .or .lnone ⟨0, 1, 5, false⟩).micro := by decide
theorem witness_PlacedTableWordRunsNext : 511 < 512 ∧ 3 < 4 := by decide
theorem witness_StepKeepsConstructionAndTakesOneInvocation :
    ∃ t, step (waiting .v8 (inv false true)) = .next t ∧ t.reg 1 = 5 := ⟨_, rfl, by decide⟩
theorem witness_DecodeOfEncodeIsTheInstruction_v4 : WellFormed .v4 (.srbq .zb .or .lnone ⟨0, 1, 15, true⟩) := by decide
theorem witness_DecodeOfEncodeIsTheInstruction_v8 : WellFormed .v8 (.lxfeed .zb .or .slbq ⟨0, 1, 255, true⟩) := by decide
theorem witness_EveryPatternIsAMicroInstruction : Format.dst ≠ .link := by decide
theorem witness_DecodedInstructionsAreWellFormed :
    decodeAs .link .v8 ⟨223, 0, 1, 5, false, 1⟩ = .ok (.lrot .dz .or .ramf ⟨0, 1, 5, false⟩) := rfl
theorem witness_OnlyTheLinkRowOfV4IsRejected :
    ¬ (Format.link = .link ∧ Variant.v8 = .v4) ∧ (Format.link = .link ∧ Variant.v4 = .v4) := by decide

theorem witness_AddResultAndFlags : low4.InRange ∧ WellFormed low4.cfg.variant (.add .da .ramf .lnone ⟨1, 2, 15, true⟩) := by decide
theorem witness_SubrResultAndFlags : low4.InRange ∧ WellFormed low4.cfg.variant (.subr .da .ramf .lnone ⟨1, 2, 15, true⟩) := by decide
theorem witness_SubsResultAndFlags : high8.InRange ∧ WellFormed high8.cfg.variant (.subs .da .ramf .lrot ⟨1, 2, 255, true⟩) := by decide
theorem witness_OrResultAndFlags : low4.InRange ∧ WellFormed low4.cfg.variant (.or .ab .qreg .lnone ⟨1, 2, 0, true⟩) := by decide
theorem witness_AndResultAndFlags : high8.InRange ∧ WellFormed high8.cfg.variant (.and .ab .slb .lxfeed ⟨1, 2, 0, true⟩) := by decide
theorem witness_NotrsResultAndFlags : low4.InRange ∧ WellFormed low4.cfg.variant (.notrs .ab .slb .lnone ⟨1, 2, 0, true⟩) := by decide
theorem witness_ExorResultAndFlags : high8.InRange ∧ WellFormed high8.cfg.variant (.exor .ab .slb .lxfeed ⟨1, 2, 0, true⟩) := by decide
theorem witness_ExnorResultAndFlags : low4.InRange ∧ WellFormed low4.cfg.variant (.exnor .dz .rama .lnone ⟨1, 2, 15, true⟩) := by decide
theorem witness_LookaheadChainEqualsTheArithmeticCarry :
    (15#8).toNat ≤ Variant.v4.mask ∧ (255#8).toNat ≤ Variant.v8.mask := by decide
theorem witness_CarryOutIgnoresTheCarryIn :
    ∃ t u, (Instr.or .dz .ramf .lnone ⟨0, 1, 5, true⟩).micro =
        { (Instr.or .dz .ramf .lnone ⟨0, 1, 5, false⟩).micro with
          ops := { (Instr.or .dz .ramf .lnone ⟨0, 1, 5, false⟩).micro.ops with c0 := true } } ∧
      exec (.or .dz .ramf .lnone ⟨0, 1, 5, false⟩) low4 = .next t ∧
      exec (.or .dz .ramf .lnone ⟨0, 1, 5, true⟩) low4 = .next u := ⟨_, _, rfl, rfl, rfl⟩

theorem witness_SrbqShiftsBothRight : high8.cfg.variant = .v8 := by decide
theorem witness_SrbShiftsTheRegisterRight : high8.cfg.variant = .v8 := by decide
theorem witness_SlbqShiftsBothLeft : high8.cfg.variant = .v8 := by decide
theorem witness_SlbShiftsTheRegisterLeft : high8.cfg.variant = .v8 := by decide
theorem witness_ShiftCodesOnV4FollowTheParameter :
    low4.cfg.variant = .v4 ∧ Instr.slb .zb .or .lnone ⟨0, 1, 0, false⟩ ∈
      [Instr.srbq .zb .or .lnone ⟨0, 1, 0, false⟩, .srb .zb .or .lnone ⟨0, 1, 0, false⟩,
        .slbq .zb .or .lnone ⟨0, 1, 0, false⟩, .slb .zb .or .lnone ⟨0, 1, 0, false⟩] := by decide
theorem witness_LnoneFillsWithZero : high8.cfg.variant = .v8 ∧ shiftFlags .srbq = some (true, true) := by decide
theorem witness_LrotRotatesEachUnit : high8.cfg.variant = .v8 ∧ shiftFlags .srb = some (true, false) := by decide
theorem witness_LxfeedCrossFeedsTheUnits : high8.cfg.variant = .v8 ∧ shiftFlags .slbq = some (false, true) := by decide
theorem witness_LonewayFeedsOneWay : high8.cfg.variant = .v8 ∧ shiftFlags .slb = some (false, false) := by decide
theorem witness_LinkModeIsReadInV8ShiftsAlone_v4 : low4.cfg.variant = .v4 ∨ shiftFlags .slb = none := by decide
theorem witness_LinkModeIsReadInV8ShiftsAlone_v8 : high8.cfg.variant = .v4 ∨ shiftFlags .ramf = none := by decide

theorem witness_OnlyTheTargetRegisterChanges :
    ∃ t, exec (.ramf .dz .or .lnone ⟨0, 1, 5, false⟩) low4 = .next t ∧ t.reg 1 ≠ low4.reg 1 := ⟨_, rfl, by decide⟩
theorem witness_OnlyThreeCodesChangeTheAccumulator :
    ∃ t, exec (.srbq .zb .or .lnone ⟨0, 1, 0, false⟩) high8 = .next t ∧ t.q ≠ high8.q := ⟨_, rfl, by decide⟩
theorem witness_BoundaryLatchesMoveInV8ShiftsAlone :
    ∃ t, (waiting .v8 (inv false true)).pending = inv false true :: [] ∧
      step (waiting .v8 (inv false true)) = .next t ∧ (inv false true).clr = false ∧
      ¬ ((inv false true).rising = true ∧ (waiting .v8 (inv false true)).cfg.variant = .v8 ∧
        (shiftFlags (dstOfCode (dstField (inv false true).pins.i))).isSome = true) := ⟨_, rfl, rfl, rfl, by decide⟩
theorem witness_NoOutputLatchIsRead :
    ∃ t, exec (.slbq .zb .or .lrot ⟨0, 1, 0, false⟩) high8 = .next t := ⟨_, rfl⟩
theorem witness_DataPinsAreReadByThreeSourceRowsAlone :
    (Instr.add .ab .ramf .lnone ⟨1, 2, 9, false⟩).micro =
      { (Instr.add .ab .ramf .lnone ⟨1, 2, 5, false⟩).micro with
        ops := { (Instr.add .ab .ramf .lnone ⟨1, 2, 5, false⟩).micro.ops with d := 9 } } ∧
    Src.ab ≠ .da ∧ Src.ab ≠ .dq ∧ Src.ab ≠ .dz := by decide
theorem witness_CrossFedShiftsAreInverse :
    high8.cfg.variant = .v8 ∧ (⟨0, 1, 5, true⟩ : Operands).b = (⟨7, 1, 0, false⟩ : Operands).b := by decide
theorem witness_RepeatedCrossFedShiftsRotateThePair : high8.cfg.variant = .v8 := by decide
theorem witness_EveryStepKeepsTheInvariant_v4 :
    ∃ t, (waiting .v4 (inv false true)).Inv ∧ step (waiting .v4 (inv false true)) = .next t := ⟨_, by decide, rfl⟩
theorem witness_EveryStepKeepsTheInvariant_v8 :
    ∃ t, (waiting .v8 (inv true true)).Inv ∧ step (waiting .v8 (inv true true)) = .next t := ⟨_, by decide, rfl⟩
theorem witness_ReachableStatesMeetTheInvariant :
    ∃ t, step ((State.construction (.ofVariant .v8)).offer (inv false true)) = .next t ∧ Reachable t ∧ t.reg 1 = 5 :=
  ⟨_, rfl, .stepped ((State.construction (.ofVariant .v8)).offer (inv false true)) _ (.offered _ _ (.constructed _)) rfl, by decide⟩

end Sys2Proof.Tests
end

section
/-! The kinds of step, the runs, and the invariant: the range rule R15, the output latches known together, and no boundary latch
on V4. The invariant is proved once per operation of a compute step (the router, then the end of the cycle), then per kind of step. -/

namespace Sys2Proof.Machine

/-! ## What a step does -/

/-- The compute step of a whole micro-instruction (R242): the state it answers. -/
def State.compute (s : State) (m : Micro) : State :=
  deliver m.dst m.link m.ops s (resultOf m.src m.fn m.ops s)

theorem exec_eq_compute (i : Instr) (s : State) : exec i s = .next (s.compute i.micro) := exec_eq_deliver i s

@[simp] theorem decode_micro (v : Variant) (p : Pins) : (decode v p).micro = microOfPins v p := (reading_micro _ _).1

/-- The clear check stands before the clock-edge check (R240, R274). -/
theorem step_of_pending {s : State} {inv : Invocation} {rest : List Invocation} (h : s.pending = inv :: rest) :
    step s =
      if inv.clr then .next (State.clear { s with pending := rest })
      else if inv.rising then exec (decode s.cfg.variant inv.pins) { s with pending := rest }
      else .next { s with pending := rest } := by
  rw [step_cons s inv rest h]
  cases hc : inv.clr <;> cases hr : inv.rising <;> simp [stepKind, hc, hr]

/-- Everything a step can do: nothing to take, a clear, a compute step of the micro-instruction on the pins, or an idle step. -/
theorem step_cases {s t : State} (h : step s = .next t) :
    (s.pending = [] ∧ t = s) ∨
    ∃ inv rest, s.pending = inv :: rest ∧
      ((inv.clr = true ∧ t = State.clear { s with pending := rest }) ∨
       (inv.clr = false ∧ inv.rising = true ∧
         t = State.compute { s with pending := rest } (microOfPins s.cfg.variant inv.pins)) ∨
       (inv.clr = false ∧ inv.rising = false ∧ t = { s with pending := rest })) := by
  cases hp : s.pending with
  | nil =>
    rw [step_nil s hp] at h
    cases h
    exact .inl ⟨rfl, rfl⟩
  | cons inv rest =>
    refine .inr ⟨inv, rest, rfl, ?_⟩
    rw [step_of_pending hp, exec_eq_compute, decode_micro] at h
    split at h
    · next hc =>
      cases h
      exact .inl ⟨hc, rfl⟩
    · next hc =>
      have hc : inv.clr = false := Bool.eq_false_of_not_eq_true hc
      split at h
      · next hr =>
        cases h
        exact .inr (.inl ⟨hc, hr, rfl⟩)
      · next hr =>
        cases h
        exact .inr (.inr ⟨hc, Bool.eq_false_of_not_eq_true hr, rfl⟩)

/-- A step is total (R17, R270). -/
theorem step_total (s : State) : ∃ t, step s = .next t := by
  cases hp : s.pending with
  | nil => exact ⟨s, step_nil s hp⟩
  | cons inv rest =>
    rw [step_of_pending hp, exec_eq_compute]
    split
    · exact ⟨_, rfl⟩
    · split <;> exact ⟨_, rfl⟩

/-- A run of k + 1 steps is the first step and a run of k. -/
theorem run_succ {s t : State} (h : step s = .next t) (k : Nat) :
    Host.Core.run Sys2Proof.core (k + 1) s = Host.Core.run Sys2Proof.core k t := by
  have hs : Sys2Proof.core.step s = .next t := h
  simp only [Host.Core.run, hs]

theorem neverStops (s : State) : NeverStops s := by
  intro k
  induction k generalizing s with
  | zero => exact ⟨s, rfl⟩
  | succ k ih =>
    obtain ⟨t, ht⟩ := step_total s
    rw [run_succ ht]
    exact ih t

/-! ## Which instructions the decoder answers -/

/-- The three checks of well-formedness as one proposition (R15, R81, R87). -/
theorem wellFormed_iff (v : Variant) (i : Instr) :
    WellFormed v i ↔ i.micro.ops.d.toNat ≤ v.mask ∧ (v = .v8 ∨ i.micro.link = .lnone) ∧ (v = .v8 ∨ i.format ≠ .link) := by
  simp [WellFormed, dataFits, linkFieldExists, rowExists, and_assoc]

/-- The data word on the pins has the variant's width (R15, R82). -/
theorem dataOnPins_le_mask (v : Variant) (d : Word) : (dataOnPins v d).toNat ≤ v.mask := by
  cases v with
  | v4 =>
    have : (d.setWidth 4).toNat < 16 := (d.setWidth 4).isLt
    simp only [dataOnPins, BitVec.toNat_setWidth, Variant.mask, Variant.modulus, Variant.width] at this ⊢
    omega
  | v8 => exact Nat.le_pred_of_lt d.isLt

/-- The pins of V4 name no link mode (R81). -/
theorem microOfPins_link (v : Variant) (p : Pins) : v = .v8 ∨ (microOfPins v p).link = .lnone := by
  cases v with
  | v4 => exact .inr rfl
  | v8 => exact .inl rfl

/-- A link row names a micro-instruction only where its link mode is not 0. -/
theorem namingFormat_ne_link {m : Micro} (h : m.link = .lnone) : namingFormat m ≠ .link := by
  rw [namingFormat, if_neg (not_not.mpr h)]
  split
  · decide
  · split <;> decide

/-- A reading of the pins is an instruction of the variant, but for the link row of V4 (R81, R84). -/
theorem wellFormed_reading {f : Format} {v : Variant} (h : ¬ (f = .link ∧ v = .v4)) (p : Pins) :
    WellFormed v (reading f (microOfPins v p)) := by
  obtain ⟨hm, hf⟩ := reading_micro f (microOfPins v p)
  rw [wellFormed_iff, hm, hf]
  refine ⟨dataOnPins_le_mask v p.d, microOfPins_link v p, ?_⟩
  cases v with
  | v4 => exact .inr fun hl => h ⟨hl, rfl⟩
  | v8 => exact .inl rfl

theorem wellFormed_decode (v : Variant) (p : Pins) : WellFormed v (decode v p) := by
  refine wellFormed_reading ?_ p
  rintro ⟨hf, rfl⟩
  exact namingFormat_ne_link rfl hf

/-! ## The invariant -/

/-- A word of V8 is in range whatever it is: MASK is the whole word (R7). -/
theorem word_le_mask_v8 (w : Word) : w.toNat ≤ Variant.v8.mask := Nat.le_pred_of_lt w.isLt

/-- What the router answers is in the variant's range: every register, Q and the bus value (R15). -/
def Routed.InRange (r : Routed) (v : Variant) : Prop :=
  (∀ a, (readReg r.rf a).toNat ≤ v.mask) ∧ r.q.toNat ≤ v.mask ∧ r.y.toNat ≤ v.mask

/-- A write of a word in range leaves every register in range (R31). -/
theorem writeReg_le_mask {v : Variant} {rf : RegFile} {w : Word} (hrf : ∀ a, (readReg rf a).toNat ≤ v.mask)
    (hw : w.toNat ≤ v.mask) (b a : RegAddr) : (readReg (writeReg rf b w) a).toNat ≤ v.mask := by
  rw [readReg_writeReg]
  split
  · exact hw
  · exact hrf a

/-- The shift codes: on V8 every word is in range, on V4 nothing but F and 0 is new (R179, R212). -/
theorem routeShift_inRange (right both : Bool) (lk : LinkRule) {s : State} (x : Operands) {f : Word}
    (hs : s.InRange) (hf : f.toNat ≤ s.cfg.variant.mask) :
    (routeShift right both lk s x f).InRange s.cfg.variant := by
  obtain ⟨hr, hq, -⟩ := hs
  cases hv : s.cfg.variant with
  | v8 => exact ⟨fun _ => word_le_mask_v8 _, word_le_mask_v8 _, word_le_mask_v8 _⟩
  | v4 =>
    rw [routeShift_v4 right both lk s x f hv, ← hv]
    refine ⟨fun a => ?_, hq, ?_⟩
    · dsimp only
      split
      · exact writeReg_le_mask hr hf x.b a
      · exact hr a
    · dsimp only
      split
      · exact Nat.zero_le _
      · exact hf

/-- The router keeps the range rule (R15, R170). -/
theorem route_inRange (dst : Dst) (lk : LinkRule) {s : State} (x : Operands) {f : Word}
    (hs : s.InRange) (hf : f.toNat ≤ s.cfg.variant.mask) : (route dst lk s x f).InRange s.cfg.variant := by
  have shift right both := routeShift_inRange right both lk x hs hf
  obtain ⟨hr, hq, -⟩ := hs
  cases dst with
  | qreg => exact ⟨hr, hf, hf⟩
  | nop => exact ⟨hr, hq, hf⟩
  | rama => exact ⟨writeReg_le_mask hr hf x.b, hq, hr x.a⟩
  | ramf => exact ⟨writeReg_le_mask hr hf x.b, hq, hf⟩
  | srbq => exact shift true true
  | srb => exact shift true false
  | slbq => exact shift false true
  | slb => exact shift false false

/-- On V4 no destination drives a boundary pin (R213). -/
theorem route_boundary_v4 (dst : Dst) (lk : LinkRule) {s : State} (x : Operands) (f : Word)
    (h : s.cfg.variant = .v4) : (route dst lk s x f).boundary = none := by
  cases hd : shiftFlags dst with
  | none => cases dst <;> cases hd <;> rfl
  | some flags => rw [route_of_shiftFlags dst lk s x flags.1 flags.2 hd, routeShift_v4 _ _ _ _ _ _ h]

theorem publish_inRange {s : State} {r : Routed} (a : AluOut) (h : r.InRange s.cfg.variant) :
    (s.publish r a).InRange := by
  obtain ⟨hr, hq, hy⟩ := h
  obtain ⟨-, hshown⟩ := publish_shows s r a
  refine ⟨hr, hq, fun y hmem => ?_⟩
  rw [hshown] at hmem
  cases hmem
  exact hy

/-- A compute step drives Y and the flags together, and the four boundary latches together or not at all (R38, R213). -/
theorem publish_latchesTogether {s : State} (r : Routed) (a : AluOut) (h : s.LatchesTogether) :
    (s.publish r a).LatchesTogether := by
  obtain ⟨-, -, -, -, hrm, hql, hqm, -⟩ := h
  obtain ⟨rf, q, y, b⟩ := r
  cases b with
  | none => exact ⟨rfl, rfl, rfl, rfl, hrm, hql, hqm, fun _ => rfl⟩
  | some _ => exact ⟨rfl, rfl, rfl, rfl, rfl, rfl, rfl, fun _ => rfl⟩

theorem publish_boundaryOnV8 {s : State} {r : Routed} (a : AluOut) (h : s.BoundaryOnV8)
    (hr : s.cfg.variant = .v4 → r.boundary = none) : (s.publish r a).BoundaryOnV8 := by
  intro hv
  obtain ⟨hrl, hrm, hql, hqm⟩ := publish_holds_boundary s r a (hr hv)
  rw [hrl, hrm, hql, hqm]
  exact h hv

/-- The data word needs no hypothesis: every result of the ALU is a residue (R131). -/
theorem compute_inv {s : State} (h : s.Inv) (m : Micro) : (s.compute m).Inv := by
  obtain ⟨hrange, htogether, hboundary⟩ := h
  have hf : (resultOf m.src m.fn m.ops s).f.toNat ≤ s.cfg.variant.mask := alu_f_le_mask ..
  exact ⟨publish_inRange _ (route_inRange m.dst (link m.link) m.ops hrange hf),
    publish_latchesTogether _ _ htogether,
    publish_boundaryOnV8 _ hboundary (route_boundary_v4 m.dst (link m.link) m.ops _)⟩

/-- The invariant reads no invocation still to come. -/
theorem inv_of_same_machine {s t : State} (h : s.Inv) (hcfg : t.cfg = s.cfg) (hrf : t.rf = s.rf) (hq : t.q = s.q)
    (hout : t.out = s.out) : t.Inv := by
  obtain ⟨cfg, rf, q, out, pending⟩ := t
  subst hcfg hrf hq hout
  exact h

/-- A state with every word 0 and every latch unknown meets the invariant: construction and clear (R43, R241). -/
theorem inv_of_zeroed {s : State} (hr : ∀ a, s.reg a = 0) (hq : s.q = 0) (hout : s.out = .unknown) : s.Inv := by
  have hrange : s.InRange := by simp [State.InRange, hr, hq, hout]
  have htogether : s.LatchesTogether := by simp [State.LatchesTogether, hout]
  have hboundary : s.BoundaryOnV8 := by simp [State.BoundaryOnV8, hout]
  exact ⟨hrange, htogether, hboundary⟩

theorem construction_inv (c : Config) : (State.construction c).Inv :=
  inv_of_zeroed (State.reg_construction c) rfl rfl

theorem step_inv {s t : State} (h : s.Inv) (hstep : step s = .next t) : t.Inv := by
  obtain ⟨-, rfl⟩ | ⟨inv, rest, -, hkind⟩ := step_cases hstep
  · exact h
  · have htaken : State.Inv { s with pending := rest } := inv_of_same_machine h rfl rfl rfl rfl
    obtain ⟨-, rfl⟩ | ⟨-, -, rfl⟩ | ⟨-, -, rfl⟩ := hkind
    · exact inv_of_zeroed (State.reg_clear _) rfl rfl
    · exact compute_inv htaken _
    · exact htaken

theorem reachable_inv {s : State} (h : Reachable s) : s.Inv := by
  induction h with
  | constructed c => exact construction_inv c
  | offered s inv _ ih => exact inv_of_same_machine ih rfl rfl rfl rfl
  | stepped s t _ hstep ih => exact step_inv ih hstep

/-! ## The statements -/

/-- Settles O53, by the kinds of step. -/
theorem everyStepKeepsTheInvariant : Obligations.EveryStepKeepsTheInvariant :=
  fun _ _ h hstep => step_inv h hstep

/-- Settles O54, by induction on reachability. -/
theorem reachableStatesMeetTheInvariant : Obligations.ReachableStatesMeetTheInvariant :=
  fun _ h => reachable_inv h

/-- Settles O52. -/
theorem constructionMeetsTheInvariant : Obligations.ConstructionMeetsTheInvariant :=
  ⟨construction_inv, construction_inv _⟩

/-- Settles O11, by induction on the number of steps. -/
theorem runsNeverStop : Obligations.RunsNeverStop := neverStops

/-- Settles O14: what the decoder answers is a reading of the micro-instruction on the pins. -/
theorem decodedInstructionsAreWellFormed : Obligations.DecodedInstructionsAreWellFormed := by
  refine fun v p => ⟨wellFormed_decode v p, fun f i h => ?_⟩
  obtain ⟨hexists, rfl⟩ := decodeAs_ok f v p i h
  obtain ⟨hmicro, -⟩ := reading_micro f (microOfPins v p)
  exact ⟨wellFormed_reading hexists p, by rw [hmicro, decode_micro]⟩

/-- Settles O2, by the five ways a construction can end. -/
theorem constructionAcceptsTheTwoVariantsAlone : Obligations.ConstructionAcceptsTheTwoVariantsAlone := by
  intro w l o d
  obtain ⟨rfl, rfl, h⟩ | ⟨rfl, rfl, h⟩ | ⟨rfl, rfl, h⟩ | ⟨rfl, rfl, h⟩ | ⟨h4, h8, h⟩ := construct_cases w l o d
  · exact h
  · exact h
  · exact h
  · exact h
  · rw [h, if_neg h4, if_neg h8]

/-- Settles O4: OE at its asserted level is the clr of `step_of_pending`. -/
theorem assertedOeLevelClears : Obligations.AssertedOeLevelClears := by
  intro s inv rest oe hp hclr
  rw [step_of_pending hp, hclr]
  simp only [clrOfLevel, decide_eq_true_eq]

end Sys2Proof.Machine
end

section
/-! The state (spec/10_state.md): what a compute step leaves unchanged of the register file and the accumulator, and
that it reads no output latch. Each frame is stated of the router, whose answer `State.publish` copies to the state. -/

namespace Sys2Proof.Machine

/-! ## The register file -/

/-- A write that changes the word read at `k` is a write to `k`. -/
theorem eq_of_readReg_writeReg_ne {rf : RegFile} {k b : RegAddr} {w : Word}
    (h : readReg (writeReg rf b w) k ≠ readReg rf k) : k = b := by
  by_contra hk
  exact h (by rw [readReg_writeReg, if_neg hk])

/-- A shift code writes RF[B] on V8, and on V4 under V4_SHIFT_DST = `write_F` (R179, R212). -/
theorem routeShift_reg_changed {right both : Bool} {lk : LinkRule} {s : State} {x : Operands} {f : Word} {k : RegAddr}
    (h : readReg (routeShift right both lk s x f).rf k ≠ s.reg k) :
    k = x.b ∧ (s.cfg.variant = .v8 ∨ s.cfg.v4ShiftDst = .writeF) := by
  cases hv : s.cfg.variant with
  | v8 =>
    rw [routeShift_v8 _ _ _ _ _ _ hv] at h
    exact ⟨eq_of_readReg_writeReg_ne h, .inl rfl⟩
  | v4 =>
    rw [routeShift_v4 _ _ _ _ _ _ hv] at h
    dsimp only at h
    split at h
    · next hd => exact ⟨eq_of_readReg_writeReg_ne h, .inr hd⟩
    · exact absurd rfl h

/-- The router changes no register but RF[B], and that one by the writing codes alone (R32, R33). -/
theorem route_reg_changed {dst : Dst} {lk : LinkRule} {s : State} {x : Operands} {f : Word} {k : RegAddr}
    (h : readReg (route dst lk s x f).rf k ≠ s.reg k) :
    k = x.b ∧ (dst = .rama ∨ dst = .ramf ∨
      ((shiftFlags dst).isSome = true ∧ (s.cfg.variant = .v8 ∨ s.cfg.v4ShiftDst = .writeF))) := by
  cases hd : shiftFlags dst with
  | some flags =>
    rw [route_of_shiftFlags dst lk s x flags.1 flags.2 hd] at h
    obtain ⟨hk, hwrites⟩ := routeShift_reg_changed h
    exact ⟨hk, .inr (.inr ⟨rfl, hwrites⟩)⟩
  | none =>
    cases dst with
    | qreg | nop => exact absurd rfl h
    | rama => exact ⟨eq_of_readReg_writeReg_ne h, .inl rfl⟩
    | ramf => exact ⟨eq_of_readReg_writeReg_ne h, .inr (.inl rfl)⟩
    | srbq | srb | slbq | slb => cases hd

/-! ## The accumulator -/

/-- Where the accumulator does not shift, no link mode changes it (R201, R208). -/
theorem link_keeps_q (m : Link) (right : Bool) (r q : Word) : (link m right false r q).q = q := by
  cases m with
  | lnone | lrot | lxfeed => rfl
  | loneway => cases right <;> rfl

/-- A shift code changes Q only on V8 and where the accumulator shifts too (R179, R201). -/
theorem routeShift_q_changed {right both : Bool} {m : Link} {s : State} {x : Operands} {f : Word}
    (h : (routeShift right both (link m) s x f).q ≠ s.q) : s.cfg.variant = .v8 ∧ both = true := by
  cases hv : s.cfg.variant with
  | v4 =>
    rw [routeShift_v4 _ _ _ _ _ _ hv] at h
    exact absurd rfl h
  | v8 =>
    rw [routeShift_v8 _ _ _ _ _ _ hv] at h
    cases both with
    | true => exact ⟨rfl, rfl⟩
    | false => exact absurd (link_keeps_q ..) h

/-- The codes under which the router changes Q (R34). -/
theorem route_q_changed {dst : Dst} {m : Link} {s : State} {x : Operands} {f : Word}
    (h : (route dst (link m) s x f).q ≠ s.q) :
    dst = .qreg ∨ (s.cfg.variant = .v8 ∧ (dst = .srbq ∨ dst = .slbq)) := by
  cases dst with
  | qreg => exact .inl rfl
  | nop | rama | ramf => exact absurd rfl h
  | srbq =>
    obtain ⟨hv, -⟩ := routeShift_q_changed h
    exact .inr ⟨hv, .inl rfl⟩
  | slbq =>
    obtain ⟨hv, -⟩ := routeShift_q_changed h
    exact .inr ⟨hv, .inr rfl⟩
  | srb | slb =>
    obtain ⟨-, hboth⟩ := routeShift_q_changed h
    cases hboth

/-! ## The output latches -/

/-- The ALU's output does not depend on the output latches (R30, R110). -/
theorem resultOf_setOut (src : Src) (fn : Fn) (x : Operands) (s : State) (o : Outputs) :
    resultOf src fn x { s with out := o } = resultOf src fn x s := by
  cases src <;> rfl

/-- The router's answer does not depend on the output latches (R30, R170). -/
theorem route_setOut (dst : Dst) (lk : LinkRule) (s : State) (o : Outputs) (x : Operands) (f : Word) :
    route dst lk { s with out := o } x f = route dst lk s x f := by
  cases dst <;> rfl

/-- Two cycles that end with the same routed values and the same ALU output show the same Y and flags (R242). -/
theorem publish_shows_alike (s s' : State) (r : Routed) (a : AluOut) :
    (s'.publish r a).out.y = (s.publish r a).out.y ∧ (s'.publish r a).out.z = (s.publish r a).out.z ∧
      (s'.publish r a).out.f3 = (s.publish r a).out.f3 ∧ (s'.publish r a).out.ovr = (s.publish r a).out.ovr ∧
      (s'.publish r a).out.c4 = (s.publish r a).out.c4 := by
  obtain ⟨⟨hz, hf3, hovr, hc4⟩, hy⟩ := publish_shows s r a
  obtain ⟨⟨hz', hf3', hovr', hc4'⟩, hy'⟩ := publish_shows s' r a
  exact ⟨hy'.trans hy.symm, hz'.trans hz.symm, hf3'.trans hf3.symm, hovr'.trans hovr.symm, hc4'.trans hc4.symm⟩

/-- With other latches the cycle is the same up to its end, where the latches it does not drive are held (R213, R242). -/
theorem compute_setOut (s : State) (o : Outputs) (m : Micro) :
    State.compute { s with out := o } m =
      State.publish { s with out := o }
        (route m.dst (link m.link) s m.ops (resultOf m.src m.fn m.ops s).f) (resultOf m.src m.fn m.ops s) := by
  rw [State.compute, resultOf_setOut, deliver, route_setOut]

/-! ## The statements -/

/-- Settles O43: a compute step always ends in `State.publish`. -/
theorem everyInstructionCompletesAndDrivesTheFlags : Obligations.EveryInstructionCompletesAndDrivesTheFlags := by
  intro i s
  obtain ⟨hflags, hy⟩ : (s.compute i.micro).ShowsFlags _ ∧ (s.compute i.micro).out.y = _ := publish_shows s _ _
  exact ⟨s.compute i.micro, exec_eq_compute i s, hflags, Option.isSome_of_eq_some hy, rfl, rfl⟩

/-- Settles O44, by the destination codes of the router. -/
theorem onlyTheTargetRegisterChanges : Obligations.OnlyTheTargetRegisterChanges := by
  intro i s t k hexec hchanged
  rw [exec_eq_compute] at hexec
  cases hexec
  exact route_reg_changed hchanged

/-- Settles O45, by the destination codes of the router. -/
theorem onlyThreeCodesChangeTheAccumulator : Obligations.OnlyThreeCodesChangeTheAccumulator := by
  intro i s t hexec hchanged
  rw [exec_eq_compute] at hexec
  cases hexec
  exact route_q_changed hchanged

/-- Settles O47: both cycles publish the same routed values and the same ALU output. -/
theorem noOutputLatchIsRead : Obligations.NoOutputLatchIsRead := by
  intro i s t o hexec
  rw [exec_eq_compute] at hexec
  cases hexec
  refine ⟨_, exec_eq_compute i _, ?_⟩
  rw [compute_setOut]
  exact ⟨rfl, rfl, rfl, rfl, publish_shows_alike ..⟩

/-- Settles O1. -/
theorem constructionAndClearZeroTheState : Obligations.ConstructionAndClearZeroTheState :=
  fun c s => ⟨⟨State.reg_construction c, State.construction_q c, State.construction_out c⟩,
    State.reg_clear s, State.clear_q s, State.clear_out s⟩

/-- Settles O10, by the kinds of step. -/
theorem stepKeepsConstructionAndTakesOneInvocation : Obligations.StepKeepsConstructionAndTakesOneInvocation := by
  intro s t hstep
  obtain ⟨hp, rfl⟩ | ⟨inv, rest, hp, hkind⟩ := step_cases hstep
  · exact ⟨rfl, by rw [hp, List.tail_nil]⟩
  · rw [hp, List.tail_cons]
    obtain ⟨-, rfl⟩ | ⟨-, -, rfl⟩ | ⟨-, -, rfl⟩ := hkind <;> exact ⟨rfl, rfl⟩

/-- Settles O49. -/
theorem registerReadsTheLastWrite : Obligations.RegisterReadsTheLastWrite := State.reg_setReg

end Sys2Proof.Machine
end

section
/-! The encoding (spec/30_encoding.md): the fields of I and their codes, the encoder and the decoder as inverses of each other,
and what a decoded instruction runs, by whichever row it is named. -/

namespace Sys2Proof.Machine

/-! ## The fields of the word I -/

theorem srcField_toNat (w : BitVec 9) : (srcField w).toNat = w.toNat % 8 := by
  simp only [srcField, BitVec.extractLsb'_toNat, Nat.shiftRight_zero, Nat.reducePow]

theorem fnField_toNat (w : BitVec 9) : (fnField w).toNat = w.toNat / 8 % 8 := by
  simp only [fnField, BitVec.extractLsb'_toNat, Nat.shiftRight_eq_div_pow, Nat.reducePow]

/-- No bit of I stands above dst, so nothing is cut off (R80). -/
theorem dstField_toNat (w : BitVec 9) : (dstField w).toNat = w.toNat / 64 := by
  have hw : w.toNat < 512 := w.isLt
  simp only [dstField, BitVec.extractLsb'_toNat, Nat.shiftRight_eq_div_pow, Nat.reducePow]
  omega

/-- The number of two fields side by side. -/
theorem toNat_append_eq_add {m n : Nat} (x : BitVec m) (y : BitVec n) :
    (x ++ y).toNat = 2 ^ n * x.toNat + y.toNat := by
  rw [BitVec.toNat_append, ← Nat.shiftLeft_add_eq_or_of_lt y.isLt, Nat.shiftLeft_eq, Nat.mul_comm]

theorem packFields_toNat (d f s : BitVec 3) :
    (packFields d f s).toNat = s.toNat + 8 * f.toNat + 64 * d.toNat := by
  simp only [packFields, toNat_append_eq_add, Nat.reducePow]
  omega

@[simp] theorem srcField_packFields (d f s : BitVec 3) : srcField (packFields d f s) = s := by
  have hs : s.toNat < 8 := s.isLt
  apply BitVec.eq_of_toNat_eq
  rw [srcField_toNat, packFields_toNat]
  omega

@[simp] theorem fnField_packFields (d f s : BitVec 3) : fnField (packFields d f s) = f := by
  have hs : s.toNat < 8 := s.isLt
  have hf : f.toNat < 8 := f.isLt
  apply BitVec.eq_of_toNat_eq
  rw [fnField_toNat, packFields_toNat]
  omega

@[simp] theorem dstField_packFields (d f s : BitVec 3) : dstField (packFields d f s) = d := by
  have hs : s.toNat < 8 := s.isLt
  have hf : f.toNat < 8 := f.isLt
  apply BitVec.eq_of_toNat_eq
  rw [dstField_toNat, packFields_toNat]
  omega

/-- I is its three fields packed: the layout has no other bit (R80). -/
@[simp] theorem packFields_fields (w : BitVec 9) : packFields (dstField w) (fnField w) (srcField w) = w := by
  apply BitVec.eq_of_toNat_eq
  rw [packFields_toNat, srcField_toNat, fnField_toNat, dstField_toNat]
  omega

/-! ## The codes of the rows: every value of a field is the code of one row (R83, R84) -/

@[simp] theorem srcOfCode_srcCode (r : Src) : srcOfCode (srcCode r) = r := by cases r <;> rfl
@[simp] theorem fnOfCode_fnCode (r : Fn) : fnOfCode (fnCode r) = r := by cases r <;> rfl
@[simp] theorem dstOfCode_dstCode (r : Dst) : dstOfCode (dstCode r) = r := by cases r <;> rfl
@[simp] theorem linkOfCode_linkCode (r : Link) : linkOfCode (linkCode r) = r := by cases r <;> rfl

@[simp] theorem srcCode_srcOfCode (c : BitVec 3) : srcCode (srcOfCode c) = c := by revert c; decide
@[simp] theorem fnCode_fnOfCode (c : BitVec 3) : fnCode (fnOfCode c) = c := by revert c; decide
@[simp] theorem dstCode_dstOfCode (c : BitVec 3) : dstCode (dstOfCode c) = c := by revert c; decide
@[simp] theorem linkCode_linkOfCode (c : BitVec 2) : linkCode (linkOfCode c) = c := by revert c; decide

/-! ## The decoder and the encoder -/

/-- A data word of the variant's width is read back from its pins as it is (R15, R82). -/
theorem dataOnPins_of_le_mask {v : Variant} {d : Word} (h : d.toNat ≤ v.mask) : dataOnPins v d = d := by
  cases v with
  | v8 => rfl
  | v4 =>
    have hd : d.toNat ≤ 15 := h
    apply BitVec.eq_of_toNat_eq
    simp only [dataOnPins, BitVec.toNat_setWidth]
    omega

/-- A link mode the variant has is read back from its pins: on V4 there is none to read (R81). -/
theorem linkOnPins_linkCode {v : Variant} {l : Link} (h : v = .v8 ∨ l = .lnone) : linkOnPins v (linkCode l) = l := by
  obtain rfl | rfl := h
  · exact linkOfCode_linkCode l
  · cases v <;> rfl

/-- The pins an instruction of the variant stands on carry its micro-instruction (R80 to R82). -/
theorem microOfPins_encode {v : Variant} {i : Instr} (h : WellFormed v i) : microOfPins v (encode i) = i.micro := by
  obtain ⟨hd, hl, -⟩ := (wellFormed_iff v i).mp h
  simp [microOfPins, encode, dataOnPins_of_le_mask hd, linkOnPins_linkCode hl]

/-- The encoder gives back the word I it was decoded from, on either variant (R80, R83). -/
theorem encode_i_of_micro {v : Variant} {i : Instr} {p : Pins} (h : i.micro = microOfPins v p) : (encode i).i = p.i := by
  simp [encode, h, microOfPins]

/-- On V8, which reads every pin, the encoder gives all of them back (R83). -/
theorem encode_of_micro_v8 {i : Instr} {p : Pins} (h : i.micro = microOfPins .v8 p) : encode i = p := by
  simp [encode, h, microOfPins, dataOnPins, linkOnPins]

theorem decodeAs_link_v4 (p : Pins) : decodeAs .link .v4 p = .error .noLinkPins := if_pos ⟨rfl, rfl⟩

/-- A row the variant has is always decoded (R83). -/
theorem decodeAs_of_row_exists {f : Format} {v : Variant} (h : ¬ (f = .link ∧ v = .v4)) (p : Pins) :
    decodeAs f v p = .ok (reading f (microOfPins v p)) := if_neg h

/-! ## What a decoded instruction runs -/

/-- An instruction does what its micro-instruction does (R84). -/
theorem exec_eq_of_micro {i j : Instr} (h : i.micro = j.micro) (s : State) : exec i s = exec j s := by
  rw [exec_eq_compute, exec_eq_compute, h]

/-- The compute step of an invocation (R242). -/
theorem step_of_rising_edge {s : State} {inv : Invocation} {rest : List Invocation} (hp : s.pending = inv :: rest)
    (hclr : inv.clr = false) (hrising : inv.rising = true) :
    step s = exec (decode s.cfg.variant inv.pins) { s with pending := rest } := by
  simp [step_of_pending hp, hclr, hrising]

/-- Where the destination does not shift, the link mode is not read (R200). -/
theorem compute_ignores_link {m : Micro} (h : shiftFlags m.dst = none) (l : Link) (s : State) :
    s.compute { m with link := l } = s.compute m := by
  obtain ⟨src, fn, dst, link, x⟩ := m
  cases dst with
  | qreg | nop | rama | ramf => rfl
  | srbq | srb | slbq | slb => cases h

/-! ## Table words (log entry 11) -/

/-- A placed table word is taken off the list again by the step that runs it. -/
theorem step_withFetchWord (s : State) (nbits w : Nat) :
    step (s.withFetchWord nbits w) = exec (decode s.cfg.variant (tablePins nbits w)) s := by
  have hp : (s.withFetchWord nbits w).pending = tableInvocation nbits w :: s.pending := rfl
  rw [step_of_rising_edge hp rfl rfl]
  rfl

/-- A table word stands with the D pins at 0, which both variants read alike: V8 alone reads its link mode (R81, R82). -/
theorem microOfPins_v8_tablePins (v : Variant) (nbits w : Nat) :
    microOfPins .v8 (tablePins nbits w) =
      { microOfPins v (tablePins nbits w) with link := linkOfCode (tablePins nbits w).m } := by
  cases v <;> rfl

theorem isLinkWord_16 (w : Nat) : isLinkWord 16 w = false := rfl

theorem isLinkWord_8 {w : Nat} (h : w < 4) : isLinkWord 8 w = true := by simp [isLinkWord, h]

/-- A word of an I9 row is decoded as the pins it stands on. -/
theorem decodeTableWord_16 {w : Nat} (h : w < 512) : decodeTableWord 16 w = some (decode .v8 (tablePins 16 w)) := by
  simp [decodeTableWord, decodeTable, isLinkWord_16, h, Except.toOption]

/-- A word of an M2 row is decoded as that row. -/
theorem decodeTableWord_8 {w : Nat} (h : w < 4) :
    decodeTableWord 8 w = some (reading .link (microOfPins .v8 (tablePins 8 w))) := by
  simp [decodeTableWord, decodeTable, isLinkWord_8 h, decodeAs_of_row_exists, Except.toOption]

/-- A word of an I9 row stands with M = 0, so that either variant reads the same micro-instruction. -/
theorem microOfPins_tablePins_16 (v : Variant) (w : Nat) :
    microOfPins .v8 (tablePins 16 w) = microOfPins v (tablePins 16 w) := by
  have hm : (tablePins 16 w).m = 0 := by simp [tablePins, isLinkWord_16]
  cases v with
  | v8 => rfl
  | v4 =>
    rw [microOfPins_v8_tablePins .v4, hm]
    rfl

/-- A word of an M2 row stands with I = 0, whose destination is QREG. -/
theorem microOfPins_tablePins_8_dst {w : Nat} (h : w < 4) (v : Variant) : (microOfPins v (tablePins 8 w)).dst = .qreg := by
  have hi : (tablePins 8 w).i = 0 := by simp [tablePins, isLinkWord_8 h]
  rw [microOfPins, hi]
  rfl

/-! ## The statements -/

/-- Settles O12: the pins of a well-formed instruction carry its micro-instruction, and its own row names it again. -/
theorem decodeOfEncodeIsTheInstruction : Obligations.DecodeOfEncodeIsTheInstruction := by
  intro v i hwf
  obtain ⟨-, -, hrow⟩ := (wellFormed_iff v i).mp hwf
  have hexists : ¬ (i.format = .link ∧ v = .v4) := by
    rintro ⟨hlink, rfl⟩
    obtain hv | hf := hrow
    · cases hv
    · exact hf hlink
  rw [decodeAs_of_row_exists hexists, microOfPins_encode hwf, reading_format_micro]

/-- Settles O9: the step runs the micro-instruction on the placed pins, and the decoded row names it. Only the link mode of an
M2 word is read differently by V4, and the cycle of such a word, with destination QREG, does not read it. -/
theorem placedTableWordRunsNext : Obligations.PlacedTableWordRunsNext := by
  refine ⟨fun s w h => ⟨_, decodeTableWord_16 h, ?_⟩, fun s w h => ⟨_, decodeTableWord_8 h, ?_⟩⟩
  · rw [step_withFetchWord]
    refine exec_eq_of_micro ?_ s
    rw [decode_micro, decode_micro, microOfPins_tablePins_16 s.cfg.variant w]
  · obtain ⟨hmicro, -⟩ := reading_micro .link (microOfPins .v8 (tablePins 8 w))
    have hdst : shiftFlags (microOfPins s.cfg.variant (tablePins 8 w)).dst = none := by
      rw [microOfPins_tablePins_8_dst h]
      rfl
    rw [step_withFetchWord, exec_eq_compute, exec_eq_compute, decode_micro, hmicro,
      microOfPins_v8_tablePins s.cfg.variant]
    exact congrArg Host.Outcome.next (compute_ignores_link hdst _ s).symm

/-- Settles O13: the instruction is the reading of the micro-instruction on the pins. -/
theorem everyPatternIsAMicroInstruction : Obligations.EveryPatternIsAMicroInstruction := by
  refine ⟨fun p f => ?_, fun p f hf => ?_⟩
  · obtain ⟨hmicro, hformat⟩ := reading_micro f (microOfPins .v8 p)
    have hexists : ¬ (f = .link ∧ Variant.v8 = .v4) := fun ⟨_, hv⟩ => nomatch hv
    exact ⟨_, decodeAs_of_row_exists hexists p, hformat, encode_of_micro_v8 hmicro⟩
  · obtain ⟨hmicro, hformat⟩ := reading_micro f (microOfPins .v4 p)
    exact ⟨_, decodeAs_of_row_exists (fun ⟨hlink, _⟩ => hf hlink) p, hformat, encode_i_of_micro hmicro⟩

/-- Settles O7: whatever row was asked for, the decoded instruction has the micro-instruction on the pins. -/
theorem computeStepRunsTheDecodedInstruction : Obligations.ComputeStepRunsTheDecodedInstruction := by
  intro s inv rest f i hp hclr hrising hdecode
  obtain ⟨-, rfl⟩ := decodeAs_ok f s.cfg.variant inv.pins i hdecode
  obtain ⟨hmicro, -⟩ := reading_micro f (microOfPins s.cfg.variant inv.pins)
  rw [step_of_rising_edge hp hclr hrising]
  exact exec_eq_of_micro (by rw [decode_micro, hmicro]) _

/-- Settles O8. -/
theorem everyRowNamesTheSameCycle : Obligations.EveryRowNamesTheSameCycle :=
  fun _ _ s h => exec_eq_of_micro h s

/-- Settles O15, by whether the variant has the row. -/
theorem onlyTheLinkRowOfV4IsRejected : Obligations.OnlyTheLinkRowOfV4IsRejected := by
  refine fun f v p => ⟨⟨fun hrejected => ?_, ?_⟩, fun hexists => ⟨_, decodeAs_of_row_exists hexists p⟩⟩
  · by_contra hexists
    rw [decodeAs_of_row_exists hexists] at hrejected
    cases hrejected
  · rintro ⟨rfl, rfl⟩
    exact decodeAs_link_v4 p

/-- Settles O16. -/
theorem fieldsComposeTheMicroInstructionWord : Obligations.FieldsComposeTheMicroInstructionWord :=
  ⟨fun w => ⟨srcField_toNat w, fnField_toNat w, dstField_toNat w⟩, fun _ => packFields_toNat ..⟩

/-- Settles O17, each word by running the decoder on it. -/
theorem specWordsDecodeAsListed : Obligations.SpecWordsDecodeAsListed :=
  ⟨rfl, rfl, rfl, rfl, rfl⟩

end Sys2Proof.Machine
end

section
/-! The operand selector (spec/40_operand_select.md): the pair each source row gives the ALU, and which rows read the D pins. The
rest of a compute step reads no data operand but that pair. -/

namespace Sys2Proof.Machine

/-! ## The D pins -/

/-- The rows without a D in their name take no operand from the D pins (R111 to R115). -/
theorem select_ignores_d {src : Src} (hda : src ≠ .da) (hdq : src ≠ .dq) (hdz : src ≠ .dz) (s : State) (x : Operands)
    (d : Word) : select src s { x with d := d } = select src s x := by
  cases src with
  | aq | ab | zq | zb | za => rfl
  | da => exact absurd rfl hda
  | dq => exact absurd rfl hdq
  | dz => exact absurd rfl hdz

/-- The router reads the register addresses alone of the operands: data reaches it only through F (R170). -/
theorem route_ignores_d (dst : Dst) (lk : LinkRule) (s : State) (x : Operands) (d f : Word) :
    route dst lk s { x with d := d } f = route dst lk s x f := by
  cases dst <;> rfl

/-- Where the source row does not read the D pins, neither does the compute step (R242). -/
theorem compute_ignores_d {m : Micro} (hda : m.src ≠ .da) (hdq : m.src ≠ .dq) (hdz : m.src ≠ .dz) (s : State) (d : Word) :
    s.compute { m with ops := { m.ops with d := d } } = s.compute m := by
  simp only [State.compute, deliver, resultOf, select_ignores_d hda hdq hdz, route_ignores_d]

/-! ## The statements -/

/-- Settles O48: the D pins could enter the cycle through the selector alone. -/
theorem dataPinsAreReadByThreeSourceRowsAlone : Obligations.DataPinsAreReadByThreeSourceRowsAlone := by
  intro i j d s hmicro hda hdq hdz
  rw [exec_eq_compute, exec_eq_compute, hmicro, compute_ignores_d hda hdq hdz]

/-- Settles O18, row by row: the compute step of a source row, with the pair the selector answers for it. -/
theorem sourceRowsSelectTheirOperands : Obligations.SourceRowsSelectTheirOperands :=
  fun fn dst m x s =>
    ⟨exec_eq_compute (.aq fn dst m x) s, exec_eq_compute (.ab fn dst m x) s, exec_eq_compute (.zq fn dst m x) s,
      exec_eq_compute (.zb fn dst m x) s, exec_eq_compute (.za fn dst m x) s, exec_eq_compute (.da fn dst m x) s,
      exec_eq_compute (.dq fn dst m x) s, exec_eq_compute (.dz fn dst m x) s⟩

end Sys2Proof.Machine
end

section
/-! The ALU (spec/41_alu.md): the lookahead chain as a comparison, overflow as a function of the sign bits, what each function
row answers for operands in range, and what of a compute step reads C0. -/

namespace Sys2Proof.Machine

/-! ## The carry -/

theorem modulus_eq_mask_add_one (v : Variant) : v.modulus = v.mask + 1 :=
  (Nat.sub_add_cancel (modulus_pos v)).symm

/-- The closed form of the lookahead chain (R145): C4 is the carry out of bit W-1 of the sum. -/
theorem carryOut_eq (v : Variant) {rc sc : Word} (cin : Bool) (hr : rc.toNat ≤ v.mask) (hs : sc.toNat ≤ v.mask) :
    carryOut v rc sc cin = decide (v.modulus ≤ rc.toNat + sc.toNat + cin.toNat) := by
  have hwidth : v.width - 1 + 1 = v.width := by cases v <;> rfl
  have hmask := mask_lt_modulus v
  have hrc : rc.toNat % 2 ^ v.width = rc.toNat := Nat.mod_eq_of_lt (hr.trans_lt hmask)
  have hsc : sc.toNat % 2 ^ v.width = sc.toNat := Nat.mod_eq_of_lt (hs.trans_lt hmask)
  rw [carryOut, carryAt_eq_carry, hwidth, BitVec.carry, hrc, hsc]
  rfl

/-- The chain of the functions that do not subtract (R133, R145). -/
theorem carryOut_add (v : Variant) {r s : Word} (hr : r.toNat ≤ v.mask) (hs : s.toNat ≤ v.mask) :
    carryOut v r s false = decide (v.modulus ≤ r.toNat + s.toNat) :=
  carryOut_eq v false hr hs

/-- The carry of a difference tells that nothing was borrowed (R138, R145). -/
theorem carryOut_compl_left (v : Variant) {r s : Word} (hr : r.toNat ≤ v.mask) (hs : s.toNat ≤ v.mask) :
    carryOut v (compl v r) s true = decide (r.toNat ≤ s.toNat) := by
  have hc := compl_toNat v r hr
  rw [carryOut_eq v true (by omega) hs, hc, modulus_eq_mask_add_one, Bool.toNat_true, decide_eq_decide]
  omega

/-- The same with the operands exchanged (R139, R145). -/
theorem carryOut_compl_right (v : Variant) {r s : Word} (hr : r.toNat ≤ v.mask) (hs : s.toNat ≤ v.mask) :
    carryOut v r (compl v s) true = decide (s.toNat ≤ r.toNat) := by
  have hc := compl_toNat v s hs
  rw [carryOut_eq v true hr (by omega), hc, modulus_eq_mask_add_one, Bool.toNat_true, decide_eq_decide]
  omega

/-! ## The flags that follow the result -/

theorem alu_f3 (fn : Fn) (c : Config) (p : OperandPair) (c0 : Bool) :
    (alu fn c p c0).f3 = decide (c.variant.half ≤ (alu fn c p c0).f.toNat) := by
  cases fn <;> rfl

theorem zeroFlag_eq (f : Word) : zeroFlag f = decide (f.toNat = 0) :=
  decide_eq_decide.mpr BitVec.toNat_inj.symm

theorem alu_z (fn : Fn) (c : Config) (p : OperandPair) (c0 : Bool) :
    (alu fn c p c0).z = decide ((alu fn c p c0).f.toNat = 0) := by
  rw [← zeroFlag_eq]
  cases fn <;> rfl

/-! ## The overflow as a function of the sign bits (R136) -/

/-- Bit W-1, the sign of a word of the variant (R134). -/
def topBit (v : Variant) (x : Word) : Bool := x.getLsbD (v.width - 1)

theorem decide_half_le {v : Variant} {x : Word} (h : x.toNat ≤ v.mask) : decide (v.half ≤ x.toNat) = topBit v x := by
  rw [topBit, Bool.eq_iff_iff, decide_eq_true_iff, half_le_iff v x h]

theorem decide_lt_half {v : Variant} {x : Word} (h : x.toNat ≤ v.mask) : decide (x.toNat < v.half) = !topBit v x := by
  rw [← decide_half_le h, ← decide_not, decide_eq_decide, Nat.not_le]

/-- Both operands have one sign and the result has the other. -/
def signOverflow (r s f : Bool) : Bool := (!r && !s && f) || (r && s && !f)

theorem signOverflow_or : ∀ r s, signOverflow r s (r || s) = false := by decide
theorem signOverflow_and : ∀ r s, signOverflow r s (r && s) = false := by decide
theorem signOverflow_notrs : ∀ r s, signOverflow r s (!r && s) = (r && s) := by decide
theorem signOverflow_xor : ∀ r s, signOverflow r s (r ^^ s) = (r && s) := by decide
theorem signOverflow_xnor : ∀ r s, signOverflow r s (!(r ^^ s)) = (!r && !s) := by decide

theorem overflowFormula_eq_signOverflow {v : Variant} {r s f : Word} (hr : r.toNat ≤ v.mask) (hs : s.toNat ≤ v.mask)
    (hf : f.toNat ≤ v.mask) : overflowFormula v r s f = signOverflow (topBit v r) (topBit v s) (topBit v f) := by
  simp only [overflowFormula, signOverflow, decide_half_le hr, decide_half_le hs, decide_half_le hf,
    decide_lt_half hr, decide_lt_half hs, decide_lt_half hf]

/-- The formula of R136 as the one proposition its two clauses make. -/
theorem overflowFormula_eq_decide (v : Variant) (r s f : Word) :
    overflowFormula v r s f = decide ((r.toNat < v.half ∧ s.toNat < v.half ∧ v.half ≤ f.toNat) ∨
      (v.half ≤ r.toNat ∧ v.half ≤ s.toNat ∧ f.toNat < v.half)) := by
  simp only [overflowFormula, Bool.decide_or, Bool.decide_and, Bool.and_assoc]

/-- The sum has no negative raw result, so that its residue is that of natural numbers (R137). -/
theorem alu_add_f_toNat (c : Config) (p : OperandPair) (c0 : Bool) :
    (alu .add c p c0).f.toNat = (p.r.toNat + p.s.toNat + c0.toNat) % c.variant.modulus := by
  have h := reduce_toNat c.variant ((p.r.toNat : Int) + p.s.toNat + c0.toNat)
  exact_mod_cast h

/-! ## The logic functions (R140 to R144) -/

/-- Below W the result has the bits of the function's raw word. -/
theorem logicOut_f_getLsbD (c : Config) (p : OperandPair) (raw : Word) {k : Nat} (hk : k < c.variant.width) :
    (logicOut c p raw).f.getLsbD k = raw.getLsbD k :=
  reduce_getLsbD c.variant raw k hk

theorem topBit_logicOut_f (c : Config) (p : OperandPair) (raw : Word) :
    topBit c.variant (logicOut c p raw).f = topBit c.variant raw :=
  logicOut_f_getLsbD c p raw (by cases c.variant <;> decide)

theorem topBit_compl (v : Variant) (x : Word) : topBit v (compl v x) = !topBit v x :=
  compl_getLsbD v x _ (by cases v <;> decide)

/-- OVR of a logic function is decided by the three sign bits, where OVR_LOGIC_MODE lets the formula decide it. -/
theorem logicOut_ovr (c : Config) {p : OperandPair} (raw : Word) (hr : p.r.toNat ≤ c.variant.mask)
    (hs : p.s.toNat ≤ c.variant.mask) :
    (logicOut c p raw).ovr = (decide (c.ovrLogicMode = .formula) &&
      signOverflow (topBit c.variant p.r) (topBit c.variant p.s) (topBit c.variant raw)) := by
  have hovr : (logicOut c p raw).ovr = logicOverflow c p.r p.s (logicOut c p raw).f := rfl
  have hf : (logicOut c p raw).f.toNat ≤ c.variant.mask := reduce_le_mask ..
  rw [hovr, logicOverflow]
  cases c.ovrLogicMode with
  | formula => simp [overflowFormula_eq_signOverflow hr hs hf, topBit_logicOut_f]
  | forcedFalse => rfl

section
variable (c : Config) {p : OperandPair} (c0 : Bool) (hr : p.r.toNat ≤ c.variant.mask) (hs : p.s.toNat ≤ c.variant.mask)
include hr hs

/-- An OR of the signs is no overflow, whatever OVR_LOGIC_MODE is. -/
theorem alu_or_ovr : (alu .or c p c0).ovr = false := by
  have hraw : topBit c.variant (p.r ||| p.s) = (topBit c.variant p.r || topBit c.variant p.s) := BitVec.getLsbD_or
  rw [alu, aluOR, logicOut_ovr c _ hr hs, hraw, signOverflow_or, Bool.and_false]

/-- An AND of the signs is no overflow, whatever OVR_LOGIC_MODE is. -/
theorem alu_and_ovr : (alu .and c p c0).ovr = false := by
  have hraw : topBit c.variant (p.r &&& p.s) = (topBit c.variant p.r && topBit c.variant p.s) := BitVec.getLsbD_and
  rw [alu, aluAND, logicOut_ovr c _ hr hs, hraw, signOverflow_and, Bool.and_false]

theorem alu_notrs_ovr : (alu .notrs c p c0).ovr =
    decide (c.ovrLogicMode = .formula ∧ c.variant.half ≤ p.r.toNat ∧ c.variant.half ≤ p.s.toNat) := by
  have hraw : topBit c.variant (compl c.variant p.r &&& p.s) = (!topBit c.variant p.r && topBit c.variant p.s) := by
    rw [← topBit_compl]
    exact BitVec.getLsbD_and
  rw [alu, aluNOTRS, logicOut_ovr c _ hr hs, hraw, signOverflow_notrs, Bool.decide_and, Bool.decide_and,
    decide_half_le hr, decide_half_le hs]

theorem alu_exor_ovr : (alu .exor c p c0).ovr =
    decide (c.ovrLogicMode = .formula ∧ c.variant.half ≤ p.r.toNat ∧ c.variant.half ≤ p.s.toNat) := by
  have hraw : topBit c.variant (p.r ^^^ p.s) = (topBit c.variant p.r ^^ topBit c.variant p.s) := BitVec.getLsbD_xor
  rw [alu, aluEXOR, logicOut_ovr c _ hr hs, hraw, signOverflow_xor, Bool.decide_and, Bool.decide_and,
    decide_half_le hr, decide_half_le hs]

theorem alu_exnor_ovr : (alu .exnor c p c0).ovr =
    decide (c.ovrLogicMode = .formula ∧ p.r.toNat < c.variant.half ∧ p.s.toNat < c.variant.half) := by
  have hraw : topBit c.variant (compl c.variant (p.r ^^^ p.s)) = !(topBit c.variant p.r ^^ topBit c.variant p.s) := by
    rw [topBit_compl]
    exact congrArg not BitVec.getLsbD_xor
  rw [alu, aluEXNOR, logicOut_ovr c _ hr hs, hraw, signOverflow_xnor, Bool.decide_and, Bool.decide_and,
    decide_lt_half hr, decide_lt_half hs]

end

/-! ## The operands of an instruction -/

/-- The selector gives a well-formed instruction operands in range, where the state is (R15, R110). -/
theorem operands_le_mask {i : Instr} {s : State} (hs : s.InRange) (hwf : WellFormed s.cfg.variant i) :
    (select i.micro.src s i.micro.ops).r.toNat ≤ s.cfg.variant.mask ∧
      (select i.micro.src s i.micro.ops).s.toNat ≤ s.cfg.variant.mask := by
  obtain ⟨hd, -, -⟩ := (wellFormed_iff s.cfg.variant i).mp hwf
  exact select_le_mask _ s _ hs hd

/-! ## The C0 pin (R133, R146) -/

/-- The chain has a forced carry-in of its own, so C4 does not read C0 (R133). -/
theorem alu_c4_ignores_c0 (fn : Fn) (c : Config) (p : OperandPair) (c0 c0' : Bool) :
    (alu fn c p c0).c4 = (alu fn c p c0').c4 := by
  cases fn <;> rfl

/-- A logic function does not read C0 at all (R146). -/
theorem alu_ignores_c0 {fn : Fn} (hadd : fn ≠ .add) (hsubr : fn ≠ .subr) (hsubs : fn ≠ .subs) (c : Config)
    (p : OperandPair) (c0 c0' : Bool) : alu fn c p c0 = alu fn c p c0' := by
  cases fn with
  | add => exact absurd rfl hadd
  | subr => exact absurd rfl hsubr
  | subs => exact absurd rfl hsubs
  | or | and | notrs | exor | exnor => rfl

theorem select_ignores_c0 (src : Src) (s : State) (x : Operands) (c0 : Bool) :
    select src s { x with c0 := c0 } = select src s x := by
  cases src <;> rfl

theorem route_ignores_c0 (dst : Dst) (lk : LinkRule) (s : State) (x : Operands) (c0 : Bool) (f : Word) :
    route dst lk s { x with c0 := c0 } f = route dst lk s x f := by
  cases dst <;> rfl

theorem compute_c4 (s : State) (m : Micro) : (s.compute m).out.c4 = some (resultOf m.src m.fn m.ops s).c4 := by
  obtain ⟨⟨-, -, -, hc4⟩, -⟩ : (s.compute m).ShowsFlags _ ∧ _ := publish_shows s _ _
  exact hc4

/-- With another C0 the cycle delivers the ALU output for that C0, and is otherwise the same. -/
theorem compute_setC0 (s : State) (m : Micro) (c0 : Bool) :
    s.compute { m with ops := { m.ops with c0 := c0 } } =
      deliver m.dst m.link m.ops s (alu m.fn s.cfg (select m.src s m.ops) c0) := by
  simp only [State.compute, deliver, resultOf, select_ignores_c0, route_ignores_c0]

/-- C4 as shown by the cycle does not read C0, whatever the function (R133). -/
theorem compute_setC0_c4 (s : State) (m : Micro) (c0 : Bool) :
    (s.compute { m with ops := { m.ops with c0 := c0 } }).out.c4 = some (resultOf m.src m.fn m.ops s).c4 := by
  rw [compute_c4, resultOf, resultOf, select_ignores_c0, alu_c4_ignores_c0]

/-- Where the function is a logic function, the compute step does not read C0 (R146). -/
theorem compute_ignores_c0 {m : Micro} (hadd : m.fn ≠ .add) (hsubr : m.fn ≠ .subr) (hsubs : m.fn ≠ .subs) (s : State)
    (c0 : Bool) : s.compute { m with ops := { m.ops with c0 := c0 } } = s.compute m := by
  rw [compute_setC0, alu_ignores_c0 hadd hsubr hsubs _ _ c0 m.ops.c0]
  rfl

/-! ## The statements -/

/-- Settles O27: the chain is the carry of binary addition, and each function runs it on R or S or their complements. -/
theorem lookaheadChainEqualsTheArithmeticCarry : Obligations.LookaheadChainEqualsTheArithmeticCarry := by
  refine ⟨fun v rc sc cin => carryOut_eq v cin, fun fn c p c0 hr hs => ?_⟩
  cases fn with
  | subr => exact carryOut_compl_left c.variant hr hs
  | subs => exact carryOut_compl_right c.variant hr hs
  | add | or | and | notrs | exor | exnor => exact carryOut_add c.variant hr hs

/-- Settles O28: C0 enters the cycle through the ALU alone, and there through the raw result of the functions 0 to 2 alone. -/
theorem carryOutIgnoresTheCarryIn : Obligations.CarryOutIgnoresTheCarryIn := by
  intro i j c s t u hmicro hi hj
  rw [exec_eq_compute] at hi hj
  cases hi
  cases hj
  refine ⟨?_, fun hadd hsubr hsubs => ?_⟩
  · rw [compute_c4, hmicro, compute_setC0_c4]
  · rw [hmicro]
    exact (compute_ignores_c0 hadd hsubr hsubs s c).symm

/-- Settles O19: the residue of a sum of naturals, the chain on R and S, and the formula of R136 as it stands. -/
theorem addResultAndFlags : Obligations.AddResultAndFlags := by
  intro src dst m x s hs hwf
  obtain ⟨hr, ht⟩ := operands_le_mask hs hwf
  exact ⟨exec_eq_deliver .., alu_add_f_toNat .., carryOut_add _ hr ht,
    alu_f3 .., alu_z .., overflowFormula_eq_decide ..⟩

/-- Settles O20: C4 is the chain on the complement of R, which tells that nothing was borrowed. -/
theorem subrResultAndFlags : Obligations.SubrResultAndFlags := by
  intro src dst m x s hs hwf
  obtain ⟨hr, ht⟩ := operands_le_mask hs hwf
  exact ⟨exec_eq_deliver .., reduce_toNat .., carryOut_compl_left _ hr ht, alu_f3 .., alu_z .., rfl⟩

/-- Settles O21: C4 is the chain on the complement of S, which tells that nothing was borrowed. -/
theorem subsResultAndFlags : Obligations.SubsResultAndFlags := by
  intro src dst m x s hs hwf
  obtain ⟨hr, ht⟩ := operands_le_mask hs hwf
  exact ⟨exec_eq_deliver .., reduce_toNat .., carryOut_compl_right _ hr ht, alu_f3 .., alu_z .., rfl⟩

/-- Settles O22: the sign of the result is the OR of the operands' signs, which is never an overflow. -/
theorem orResultAndFlags : Obligations.OrResultAndFlags := by
  intro src dst m x s hs hwf
  obtain ⟨hr, ht⟩ := operands_le_mask hs hwf
  exact ⟨exec_eq_deliver .., alu_f_le_mask ..,
    fun k hk => (logicOut_f_getLsbD _ _ _ hk).trans BitVec.getLsbD_or,
    carryOut_add _ hr ht, alu_f3 .., alu_z .., alu_or_ovr _ _ hr ht⟩

/-- Settles O23: the sign of the result is the AND of the operands' signs, which is never an overflow. -/
theorem andResultAndFlags : Obligations.AndResultAndFlags := by
  intro src dst m x s hs hwf
  obtain ⟨hr, ht⟩ := operands_le_mask hs hwf
  exact ⟨exec_eq_deliver .., alu_f_le_mask ..,
    fun k hk => (logicOut_f_getLsbD _ _ _ hk).trans BitVec.getLsbD_and,
    carryOut_add _ hr ht, alu_f3 .., alu_z .., alu_and_ovr _ _ hr ht⟩

/-- Settles O24: R is complemented for the result alone, so that C4 and OVR read the signs of R and S themselves. -/
theorem notrsResultAndFlags : Obligations.NotrsResultAndFlags := by
  intro src dst m x s hs hwf
  obtain ⟨hr, ht⟩ := operands_le_mask hs hwf
  refine ⟨exec_eq_deliver .., alu_f_le_mask .., fun k hk => (logicOut_f_getLsbD _ _ _ hk).trans ?_,
    carryOut_add _ hr ht, alu_f3 .., alu_z .., alu_notrs_ovr _ _ hr ht⟩
  rw [BitVec.getLsbD_and, compl_getLsbD _ _ _ hk]

/-- Settles O25: the result has sign 1 exactly where the operands' signs differ, so that OVR tells of two signs 1. -/
theorem exorResultAndFlags : Obligations.ExorResultAndFlags := by
  intro src dst m x s hs hwf
  obtain ⟨hr, ht⟩ := operands_le_mask hs hwf
  exact ⟨exec_eq_deliver .., alu_f_le_mask ..,
    fun k hk => (logicOut_f_getLsbD _ _ _ hk).trans BitVec.getLsbD_xor,
    carryOut_add _ hr ht, alu_f3 .., alu_z .., alu_exor_ovr _ _ hr ht⟩

/-- Settles O26: the result has sign 1 exactly where the operands' signs agree, so that OVR tells of two signs 0. -/
theorem exnorResultAndFlags : Obligations.ExnorResultAndFlags := by
  intro src dst m x s hs hwf
  obtain ⟨hr, ht⟩ := operands_le_mask hs hwf
  refine ⟨exec_eq_deliver .., alu_f_le_mask .., fun k hk => (logicOut_f_getLsbD _ _ _ hk).trans ?_,
    carryOut_add _ hr ht, alu_f3 .., alu_z .., alu_exnor_ovr _ _ hr ht⟩
  rw [compl_getLsbD _ _ _ hk, BitVec.getLsbD_xor]

end Sys2Proof.Machine
end

section
/-! The destination router (spec/42_destination.md): what a compute cycle without boundary pins does, what a shift code does on each
variant, and the shifted register and accumulator of V8 as numbers, alone and as one pair (R210). -/

namespace Sys2Proof.Machine

/-! ## The shifted units -/

/-- A word moved by one bit, with `b` in the vacated place (R203). -/
def shiftIn (right : Bool) (x : Word) (b : Bool) : Word := setBit (shiftUnit right x) (vacated right) b

theorem shiftIn_false (right : Bool) (x : Word) : shiftIn right x false = shiftUnit right x := by
  revert right x
  decide

theorem shiftIn_right_toNat (x : Word) (b : Bool) : (shiftIn true x b).toNat = x.toNat / 2 + b.toNat * 128 := by
  obtain ⟨-, -, hright, -⟩ := shiftUnit_toNat x b
  exact hright

theorem shiftIn_left_toNat (x : Word) (b : Bool) : (shiftIn false x b).toNat = 2 * x.toNat % 256 + b.toNat := by
  obtain ⟨-, -, -, hleft⟩ := shiftUnit_toNat x b
  exact hleft

theorem leaving_right_toNat (x : Word) : (leaving true x).toNat = x.toNat % 2 := (endBits_toNat x).1

theorem leaving_left_toNat (x : Word) : (leaving false x).toNat = x.toNat / 128 := (endBits_toNat x).2

/-- To the right, with the bit that leaves `y` coming in: a rotation where `y` is the word itself. -/
theorem shiftIn_right_leaving_toNat (x y : Word) :
    (shiftIn true x (leaving true y)).toNat = x.toNat / 2 + y.toNat % 2 * 128 := by
  rw [shiftIn_right_toNat, leaving_right_toNat]

/-- To the left, with the bit that leaves `y` coming in. -/
theorem shiftIn_left_leaving_toNat (x y : Word) :
    (shiftIn false x (leaving false y)).toNat = 2 * x.toNat % 256 + y.toNat / 128 := by
  rw [shiftIn_left_toNat, leaving_left_toNat]

/-- To the right, the accumulator taking the register's bit makes the two one 16-bit number that moves (R210). -/
theorem pairValue_shiftIn_right (r q : Word) (b : Bool) :
    pairValue (shiftIn true r b) (shiftIn true q (leaving true r)) = pairValue r q / 2 + b.toNat * 32768 := by
  simp only [pairValue, shiftIn_right_toNat, leaving_right_toNat]
  omega

/-- To the left, the register taking the accumulator's bit makes the two one 16-bit number that moves (R210). -/
theorem pairValue_shiftIn_left (r q : Word) (b : Bool) :
    pairValue (shiftIn false r (leaving false q)) (shiftIn false q b) = 2 * pairValue r q % 65536 + b.toNat := by
  simp only [pairValue, shiftIn_left_toNat, leaving_left_toNat]
  omega

/-- The bit that leaves the pair to the right leaves the accumulator. -/
theorem leaving_right_pairValue (r q : Word) : (leaving true q).toNat = pairValue r q % 2 := by
  simp only [pairValue, leaving_right_toNat]
  omega

/-- The bit that leaves the pair to the left leaves the register. -/
theorem leaving_left_pairValue (r q : Word) : (leaving false r).toNat = pairValue r q / 32768 := by
  simp only [pairValue, leaving_left_toNat]
  omega

/-- To the right, each unit taking the other's bit rotates the pair (R210). -/
theorem pairValue_rotate_right (r q : Word) :
    pairValue (shiftIn true r (leaving true q)) (shiftIn true q (leaving true r)) =
      pairValue r q / 2 + pairValue r q % 2 * 32768 := by
  rw [pairValue_shiftIn_right, leaving_right_pairValue r q]

/-- To the left, each unit taking the other's bit rotates the pair (R210). -/
theorem pairValue_rotate_left (r q : Word) :
    pairValue (shiftIn false r (leaving false q)) (shiftIn false q (leaving false r)) =
      2 * pairValue r q % 65536 + pairValue r q / 32768 := by
  rw [pairValue_shiftIn_left, leaving_left_pairValue r q]

/-! ## The link modes -/

/-- The bit that a link mode puts into the register's vacated place (R204 to R207). -/
def registerFill (m : Link) (right : Bool) (r q : Word) : Bool :=
  match m with
  | .lnone => false
  | .lrot => leaving right r
  | .lxfeed => leaving right q
  | .loneway => !right && leaving right q

/-- The bit that a link mode puts into the accumulator's vacated place, where the accumulator shifts (R204 to R207). -/
def accumulatorFill (m : Link) (right : Bool) (r q : Word) : Bool :=
  match m with
  | .lnone => false
  | .lrot => leaving right q
  | .lxfeed => leaving right r
  | .loneway => right && leaving right r

/-- An override of the accumulator leaves the register. -/
theorem fillQ_r (right both b : Bool) (t : Shifted) : (fillQ right both b t).r = t.r := by
  cases both <;> rfl

/-- Every link mode moves the register by one bit, whether the accumulator shifts or not (R208). -/
theorem link_r (m : Link) (right both : Bool) (r q : Word) :
    (link m right both r q).r = shiftIn right r (registerFill m right r q) := by
  cases m with
  | lnone => exact (shiftIn_false right r).symm
  | lrot | lxfeed => exact fillQ_r ..
  | loneway =>
    cases right with
    | true => exact (fillQ_r ..).trans (shiftIn_false true r).symm
    | false => rfl

/-- Where the accumulator shifts, every link mode moves it by one bit too. -/
theorem link_q_of_both (m : Link) (right : Bool) (r q : Word) :
    (link m right true r q).q = shiftIn right q (accumulatorFill m right r q) := by
  cases m with
  | lnone => exact (shiftIn_false right q).symm
  | lrot | lxfeed => rfl
  | loneway =>
    cases right with
    | true => rfl
    | false => exact (shiftIn_false false q).symm

theorem link_q (m : Link) (right both : Bool) (r q : Word) :
    (link m right both r q).q = if both then shiftIn right q (accumulatorFill m right r q) else q := by
  cases both with
  | true => exact link_q_of_both m right r q
  | false => exact link_keeps_q m right r q

/-! ## The compute cycle of a destination row -/

/-- A cycle whose route drives no boundary pin: the router's values, the ALU's flags, and nothing else (R214, R242). -/
theorem exec_of_route (i : Instr) (s : State) {rf : RegFile} {q y : Word}
    (h : route i.micro.dst (link i.micro.link) s i.micro.ops (resultOf i.micro.src i.micro.fn i.micro.ops s).f =
      ⟨rf, q, y, none⟩) :
    ∃ t, exec i s = .next t ∧ t.q = q ∧ t.out.y = some y ∧ (∀ k, t.reg k = readReg rf k) ∧
      t.ShowsFlags (resultOf i.micro.src i.micro.fn i.micro.ops s) ∧ BoundaryHeld s t ∧ SameInstance s t := by
  refine ⟨_, exec_eq_deliver i s, ?_⟩
  rw [deliver, h]
  obtain ⟨hflags, hy⟩ := publish_shows s ⟨rf, q, y, none⟩ (resultOf i.micro.src i.micro.fn i.micro.ops s)
  exact ⟨rfl, hy, fun _ => rfl, hflags, publish_holds_boundary _ _ _ rfl, rfl, rfl⟩

/-- A shift code on V4 (R179): V4_SHIFT_DST says what it does, and neither the code nor the link mode is read. -/
theorem exec_shift_v4 {i : Instr} {s : State} {right both : Bool} (hd : shiftFlags i.micro.dst = some (right, both))
    (hv : s.cfg.variant = .v4) :
    ∃ t, exec i s = .next t ∧ t.q = s.q ∧
      (∀ k, t.reg k = if s.cfg.v4ShiftDst = .writeF ∧ k = i.micro.ops.b then
        (resultOf i.micro.src i.micro.fn i.micro.ops s).f else s.reg k) ∧
      t.out.y = some (if s.cfg.v4ShiftDst = .nopZero then 0 else (resultOf i.micro.src i.micro.fn i.micro.ops s).f) ∧
      t.ShowsFlags (resultOf i.micro.src i.micro.fn i.micro.ops s) ∧ BoundaryHeld s t ∧ SameInstance s t := by
  have hroute := routeShift_v4 right both (link i.micro.link) s i.micro.ops
    (resultOf i.micro.src i.micro.fn i.micro.ops s).f hv
  rw [← route_of_shiftFlags _ _ _ _ _ _ hd] at hroute
  obtain ⟨t, hexec, hq, hy, hreg, hrest⟩ := exec_of_route i s hroute
  refine ⟨t, hexec, hq, fun k => ?_, hy, hrest⟩
  rw [hreg]
  by_cases hw : s.cfg.v4ShiftDst = .writeF <;> simp [hw, State.reg]

/-- The end of a shift cycle that writes `u` to RF[b] and Q (R212, R213). -/
theorem publish_shiftCycleFrame (s : State) (b : RegAddr) (u : Shifted) (a : AluOut) :
    ShiftCycleFrame s (s.publish ⟨writeReg s.rf b u.r, u.q, a.f, some (boundaryOf u)⟩ a) b a ∧
      (s.publish ⟨writeReg s.rf b u.r, u.q, a.f, some (boundaryOf u)⟩ a).reg b = u.r := by
  have hb : readReg (writeReg s.rf b u.r) b = u.r := by rw [readReg_writeReg, if_pos rfl]
  have hk : ∀ k, k ≠ b → readReg (writeReg s.rf b u.r) k = s.reg k :=
    fun k hne => by rw [readReg_writeReg, if_neg hne, State.reg]
  obtain ⟨hflags, hy⟩ := publish_shows s ⟨writeReg s.rf b u.r, u.q, a.f, some (boundaryOf u)⟩ a
  refine ⟨⟨hy, hflags, hk, ?_, ?_, rfl, rfl, rfl, rfl⟩, hb⟩ <;> rw [State.reg_publish, hb] <;> rfl

/-- A shift code on V8 (R212): the pre-cycle RF[B], and Q where the code shifts it, move by one bit under the link mode, and F is
on Y alone. -/
theorem exec_shift_v8 (i : Instr) {s : State} {right both : Bool} (hd : shiftFlags i.micro.dst = some (right, both))
    (hv : s.cfg.variant = .v8) :
    ∃ t, exec i s = .next t ∧
      ShiftCycleFrame s t i.micro.ops.b (resultOf i.micro.src i.micro.fn i.micro.ops s) ∧
      t.reg i.micro.ops.b =
        shiftIn right (s.reg i.micro.ops.b) (registerFill i.micro.link right (s.reg i.micro.ops.b) s.q) ∧
      t.q = if both then shiftIn right s.q (accumulatorFill i.micro.link right (s.reg i.micro.ops.b) s.q) else s.q := by
  refine ⟨_, exec_eq_deliver i s, ?_⟩
  rw [← link_r _ _ both, ← link_q, deliver, route_of_shiftFlags _ _ _ _ _ _ hd, routeShift_v8 _ _ _ _ _ _ hv]
  obtain ⟨hframe, hreg⟩ := publish_shiftCycleFrame s i.micro.ops.b _ _
  exact ⟨hframe, hreg, rfl⟩

/-! ## The statements -/

/-- Settles O33: under LXFEED and LONEWAY the accumulator takes the register's bit, so that the pair moves as one number. -/
theorem srbqShiftsBothRight : Obligations.SrbqShiftsBothRight := by
  intro src fn m x s hv
  obtain ⟨t, hexec, hframe, (hr : t.reg x.b = shiftIn true (s.reg x.b) (registerFill m true (s.reg x.b) s.q)),
    (hq : t.q = shiftIn true s.q (accumulatorFill m true (s.reg x.b) s.q))⟩ :=
    exec_shift_v8 (.srbq src fn m x) rfl hv
  refine ⟨t, hexec, hframe, ?_⟩
  rw [hr, hq]
  cases m with
  | lnone => exact ⟨shiftIn_right_toNat _ false, shiftIn_right_toNat _ false⟩
  | lrot => exact ⟨shiftIn_right_leaving_toNat .., shiftIn_right_leaving_toNat ..⟩
  | lxfeed => exact pairValue_rotate_right (s.reg x.b) s.q
  | loneway => exact pairValue_shiftIn_right (s.reg x.b) s.q false

/-- Settles O35: under LXFEED and LONEWAY the register takes the accumulator's bit, so that the pair moves as one number. -/
theorem slbqShiftsBothLeft : Obligations.SlbqShiftsBothLeft := by
  intro src fn m x s hv
  obtain ⟨t, hexec, hframe, (hr : t.reg x.b = shiftIn false (s.reg x.b) (registerFill m false (s.reg x.b) s.q)),
    (hq : t.q = shiftIn false s.q (accumulatorFill m false (s.reg x.b) s.q))⟩ :=
    exec_shift_v8 (.slbq src fn m x) rfl hv
  refine ⟨t, hexec, hframe, ?_⟩
  rw [hr, hq]
  cases m with
  | lnone => exact ⟨shiftIn_left_toNat _ false, shiftIn_left_toNat _ false⟩
  | lrot => exact ⟨shiftIn_left_leaving_toNat .., shiftIn_left_leaving_toNat ..⟩
  | lxfeed => exact pairValue_rotate_left (s.reg x.b) s.q
  | loneway => exact pairValue_shiftIn_left (s.reg x.b) s.q false

/-- Settles O34, by the bit each link mode puts into the register. -/
theorem srbShiftsTheRegisterRight : Obligations.SrbShiftsTheRegisterRight := by
  intro src fn m x s hv
  obtain ⟨t, hexec, hframe, (hr : t.reg x.b = shiftIn true (s.reg x.b) (registerFill m true (s.reg x.b) s.q)), hq⟩ :=
    exec_shift_v8 (.srb src fn m x) rfl hv
  refine ⟨t, hexec, hframe, hq, ?_⟩
  rw [hr]
  cases m with
  | lnone | loneway => exact shiftIn_right_toNat _ false
  | lrot | lxfeed => exact shiftIn_right_leaving_toNat ..

/-- Settles O36, by the bit each link mode puts into the register. -/
theorem slbShiftsTheRegisterLeft : Obligations.SlbShiftsTheRegisterLeft := by
  intro src fn m x s hv
  obtain ⟨t, hexec, hframe, (hr : t.reg x.b = shiftIn false (s.reg x.b) (registerFill m false (s.reg x.b) s.q)), hq⟩ :=
    exec_shift_v8 (.slb src fn m x) rfl hv
  refine ⟨t, hexec, hframe, hq, ?_⟩
  rw [hr]
  cases m with
  | lnone => exact shiftIn_left_toNat _ false
  | lrot | lxfeed | loneway => exact shiftIn_left_leaving_toNat ..

/-- Settles O37: on V4 the four codes are one rule. -/
theorem shiftCodesOnV4FollowTheParameter : Obligations.ShiftCodesOnV4FollowTheParameter := by
  intro src fn m x s hv i hi
  simp only [List.mem_cons, List.not_mem_nil, or_false] at hi
  obtain rfl | rfl | rfl | rfl := hi <;> exact exec_shift_v4 rfl hv

/-- Settles O29, by R171's route. -/
theorem qregWritesTheAccumulator : Obligations.QregWritesTheAccumulator :=
  fun src fn m x s => exec_of_route (.qreg src fn m x) s rfl

/-- Settles O30, by R172's route. -/
theorem nopWritesNoRegister : Obligations.NopWritesNoRegister :=
  fun src fn m x s => exec_of_route (.nop src fn m x) s rfl

/-- Settles O31: Y is RF[A] of the pre-cycle state, so the write to RF[B] does not reach it. -/
theorem ramaWritesBAndShowsOldA : Obligations.RamaWritesBAndShowsOldA := by
  intro src fn m x s
  obtain ⟨t, hexec, hq, hy, hreg, hrest⟩ := exec_of_route (.rama src fn m x) s rfl
  exact ⟨t, hexec, hq, hy, fun k => (hreg k).trans (readReg_writeReg ..), hrest⟩

/-- Settles O32, by R174's route. -/
theorem ramfWritesBAndShowsIt : Obligations.RamfWritesBAndShowsIt := by
  intro src fn m x s
  obtain ⟨t, hexec, hq, hy, hreg, hrest⟩ := exec_of_route (.ramf src fn m x) s rfl
  exact ⟨t, hexec, hq, hy, fun k => (hreg k).trans (readReg_writeReg ..), hrest⟩

end Sys2Proof.Machine
end

section
/-! The shift-link network (spec/43_shift_link.md): what each link mode puts into the vacated bits, what a cycle outside the shifts of
V8 neither reads nor drives, and the cross-fed shifts as rotations of the register and the accumulator as one 16-bit word (R210). -/

namespace Sys2Proof.Machine

/-! ## The bits that move -/

theorem leaving_eq_movedOut (right : Bool) (x : Word) : leaving right x = movedOut right x := by
  cases right <;> rfl

/-- `shiftIn` is the one-bit move of R203. -/
theorem movedOneBit_shiftIn (right : Bool) (x : Word) (b : Bool) : MovedOneBit right x (shiftIn right x b) b :=
  (shiftUnit_moved right x b).1

/-- A shift code on V8, bit by bit: each unit that shifts moves by one place and takes the link mode's bit (R203 to R209). -/
theorem exec_shift_v8_moved (i : Instr) {s : State} {right both : Bool} (hd : shiftFlags i.micro.dst = some (right, both))
    (hv : s.cfg.variant = .v8) :
    ∃ t, exec i s = .next t ∧
      ShiftCycleFrame s t i.micro.ops.b (resultOf i.micro.src i.micro.fn i.micro.ops s) ∧
      MovedOneBit right (s.reg i.micro.ops.b) (t.reg i.micro.ops.b)
        (registerFill i.micro.link right (s.reg i.micro.ops.b) s.q) ∧
      (if both then MovedOneBit right s.q t.q (accumulatorFill i.micro.link right (s.reg i.micro.ops.b) s.q)
        else t.q = s.q) := by
  obtain ⟨t, hexec, hframe, hr, hq⟩ := exec_shift_v8 i hd hv
  refine ⟨t, hexec, hframe, ?_, ?_⟩
  · rw [hr]
    exact movedOneBit_shiftIn ..
  · rw [hq]
    cases both with
    | true => exact movedOneBit_shiftIn ..
    | false => rfl

/-! ## Outside the shift cycles of V8 -/

/-- The router reads the link mode in the shift cycles of V8 alone (R179, R200). -/
theorem route_ignores_link {dst : Dst} {s : State} (h : s.cfg.variant = .v4 ∨ shiftFlags dst = none) (lk lk' : LinkRule)
    (x : Operands) (f : Word) : route dst lk s x f = route dst lk' s x f := by
  cases hd : shiftFlags dst with
  | some flags =>
    have hv : s.cfg.variant = .v4 := h.resolve_right (by rw [hd]; exact Option.some_ne_none flags)
    rw [route_of_shiftFlags dst lk s x flags.1 flags.2 hd, route_of_shiftFlags dst lk' s x flags.1 flags.2 hd,
      routeShift_v4 _ _ lk _ _ _ hv, routeShift_v4 _ _ lk' _ _ _ hv]
  | none =>
    cases dst with
    | qreg | nop | rama | ramf => rfl
    | srbq | srb | slbq | slb => cases hd

theorem deliver_ignores_link {dst : Dst} {s : State} (h : s.cfg.variant = .v4 ∨ shiftFlags dst = none) (m m' : Link)
    (x : Operands) (a : AluOut) : deliver dst m x s a = deliver dst m' x s a := by
  rw [deliver, deliver, route_ignores_link h (link m) (link m')]

/-- The router drives the boundary pins in the shift cycles of V8 alone (R213, R214). -/
theorem route_boundary_eq_none {dst : Dst} {s : State} (h : s.cfg.variant = .v4 ∨ shiftFlags dst = none) (lk : LinkRule)
    (x : Operands) (f : Word) : (route dst lk s x f).boundary = none := by
  obtain hv | hd := h
  · exact route_boundary_v4 dst lk x f hv
  · cases dst with
    | qreg | nop | rama | ramf => rfl
    | srbq | srb | slbq | slb => cases hd

theorem compute_holds_boundary {s : State} {m : Micro} (h : s.cfg.variant = .v4 ∨ shiftFlags m.dst = none) :
    BoundaryHeld s (s.compute m) :=
  publish_holds_boundary _ _ _ (route_boundary_eq_none h ..)

/-! ## The cross-fed shifts as inverses -/

/-- The bit that came in on one side is the one that leaves there to the other direction. -/
theorem leaving_shiftIn (right : Bool) (x : Word) (b : Bool) : leaving (!right) (shiftIn right x b) = b := by
  revert right x b
  decide

/-- A word moved by one bit and back, with the bit that it lost coming in again. -/
theorem shiftIn_shiftIn_leaving (right : Bool) (x : Word) (b : Bool) :
    shiftIn (!right) (shiftIn right x b) (leaving right x) = x := by
  revert right x b
  decide

/-- A cross-fed shift of both units on V8 (R206). -/
theorem exec_crossFed (i : Instr) {s : State} {right : Bool} (hl : i.micro.link = .lxfeed)
    (hd : shiftFlags i.micro.dst = some (right, true)) (hv : s.cfg.variant = .v8) :
    ∃ t, exec i s = .next t ∧ t.cfg = s.cfg ∧ (∀ k, k ≠ i.micro.ops.b → t.reg k = s.reg k) ∧
      t.reg i.micro.ops.b = shiftIn right (s.reg i.micro.ops.b) (leaving right s.q) ∧
      t.q = shiftIn right s.q (leaving right (s.reg i.micro.ops.b)) := by
  obtain ⟨t, hexec, ⟨-, -, hother, -, -, -, -, hcfg, -⟩, hr, hq⟩ := exec_shift_v8 i hd hv
  rw [hl] at hr hq
  exact ⟨t, hexec, hcfg, hother, hr, hq⟩

/-- A cross-fed shift of the same register in the other direction restores the register file and the accumulator (R210). -/
theorem exec_crossFed_back (i j : Instr) {s : State} {right : Bool} (hli : i.micro.link = .lxfeed)
    (hlj : j.micro.link = .lxfeed) (hdi : shiftFlags i.micro.dst = some (right, true))
    (hdj : shiftFlags j.micro.dst = some (!right, true)) (hb : j.micro.ops.b = i.micro.ops.b) (hv : s.cfg.variant = .v8) :
    ∃ t u, exec i s = .next t ∧ exec j t = .next u ∧ u.rf = s.rf ∧ u.q = s.q := by
  obtain ⟨t, hexec, hcfg, hother, hr, hq⟩ := exec_crossFed i hli hdi hv
  obtain ⟨u, hexec', -, hother', hr', hq'⟩ := exec_crossFed j hlj hdj (hcfg ▸ hv)
  rw [hb] at hother' hr' hq'
  rw [hr, hq, leaving_shiftIn, shiftIn_shiftIn_leaving] at hr' hq'
  refine ⟨t, u, hexec, hexec', regFile_ext fun k => ?_, hq'⟩
  by_cases hk : k = i.micro.ops.b
  · rw [hk]
    exact hr'
  · exact (hother' k hk).trans (hother k hk)

/-! ## The cross-fed right shift as a rotation -/

/-- A right rotation reads its word at an index moved round the word. -/
theorem getLsbD_rotateRight_mod {w i : Nat} (hi : i < w) (x : BitVec w) (n : Nat) :
    (x.rotateRight n).getLsbD i = x.getLsbD ((i + n) % w) := by
  have hn : n % w < w := Nat.mod_lt n (by omega)
  rw [BitVec.getLsbD_rotateRight, ← Nat.add_mod_mod i]
  by_cases h : i < w - n % w
  · have hinside : (i + n % w) % w = n % w + i := by rw [Nat.mod_eq_of_lt (by omega), Nat.add_comm]
    rw [hinside, decide_eq_true h, cond_true]
  · have hwrap : (i + n % w) % w = i - (w - n % w) := by
      rw [Nat.mod_eq_sub_mod (by omega), Nat.mod_eq_of_lt (by omega)]
      omega
    rw [hwrap, decide_eq_false h, cond_false, decide_eq_true hi, Bool.true_and]

theorem rotateRight_zero {w : Nat} (x : BitVec w) : x.rotateRight 0 = x := by
  apply BitVec.eq_of_getLsbD_eq
  intro i hi
  rw [getLsbD_rotateRight_mod hi, Nat.add_zero, Nat.mod_eq_of_lt hi]

/-- Rotations to the right add up. -/
theorem rotateRight_rotateRight {w : Nat} (x : BitVec w) (m n : Nat) :
    (x.rotateRight m).rotateRight n = x.rotateRight (n + m) := by
  apply BitVec.eq_of_getLsbD_eq
  intro i hi
  have hmod : (i + n) % w < w := Nat.mod_lt _ (by omega)
  rw [getLsbD_rotateRight_mod hi, getLsbD_rotateRight_mod hmod, getLsbD_rotateRight_mod hi, Nat.mod_add_mod, Nat.add_assoc]

/-- The pair of R210 as a 16-bit word. -/
theorem append_toNat_eq_pairValue (r q : Word) : (r ++ q).toNat = pairValue r q := by
  rw [BitVec.toNat_append, ← Nat.shiftLeft_add_eq_or_of_lt q.isLt, Nat.shiftLeft_eq]

/-- A 16-bit word rotated right by one place, as a number: the bit that leaves below comes in at the top. -/
theorem rotateRight_one_toNat (p : BitVec 16) : (p.rotateRight 1).toNat = p.toNat / 2 + p.toNat % 2 * 32768 := by
  have hlow : p.toNat / 2 < 2 ^ 15 := by have := p.isLt; omega
  have htop : p.toNat <<< 15 % 2 ^ 16 = (p.toNat % 2) <<< 15 := by
    simp only [Nat.shiftLeft_eq]
    omega
  rw [BitVec.toNat_rotateRight, Nat.shiftRight_eq_div_pow, htop, Nat.or_comm, ← Nat.shiftLeft_add_eq_or_of_lt hlow,
    Nat.shiftLeft_eq, Nat.add_comm]

/-- To the right, each unit taking the other's bit rotates the 16-bit word by one place (R210). -/
theorem append_shiftIn_crossFed (r q : Word) :
    shiftIn true r (leaving true q) ++ shiftIn true q (leaving true r) = (r ++ q).rotateRight 1 := by
  apply BitVec.eq_of_toNat_eq
  rw [append_toNat_eq_pairValue, pairValue_rotate_right, rotateRight_one_toNat, append_toNat_eq_pairValue]

theorem execTimes_succ {i : Instr} {s t : State} (h : exec i s = .next t) (n : Nat) :
    execTimes i (n + 1) s = execTimes i n t := by
  simp only [execTimes, h]

/-- Each cross-fed right shift rotates the pair by one more place (R210). -/
theorem execTimes_crossFed (i : Instr) (hl : i.micro.link = .lxfeed) (hd : shiftFlags i.micro.dst = some (true, true))
    (n : Nat) {s : State} (hv : s.cfg.variant = .v8) :
    ∃ t, execTimes i n s = .next t ∧ (∀ k, k ≠ i.micro.ops.b → t.reg k = s.reg k) ∧
      t.reg i.micro.ops.b ++ t.q = (s.reg i.micro.ops.b ++ s.q).rotateRight n := by
  induction n generalizing s with
  | zero => exact ⟨s, rfl, fun _ _ => rfl, (rotateRight_zero _).symm⟩
  | succ n ih =>
    obtain ⟨t, hexec, hcfg, hother, hr, hq⟩ := exec_crossFed i hl hd hv
    obtain ⟨u, hrun, hother', hpair⟩ := ih (s := t) (hcfg ▸ hv)
    refine ⟨u, (execTimes_succ hexec n).trans hrun, fun k hk => (hother' k hk).trans (hother k hk), ?_⟩
    rw [hpair, hr, hq, append_shiftIn_crossFed, rotateRight_rotateRight]

/-! ## The statements -/

/-- Settles O38: LNONE's fills are 0. -/
theorem lnoneFillsWithZero : Obligations.LnoneFillsWithZero :=
  fun src fn dst x _ _ _ hv hd => exec_shift_v8_moved (.lnone src fn dst x) hd hv

/-- Settles O39: LROT's fills are the bits the units lose. -/
theorem lrotRotatesEachUnit : Obligations.LrotRotatesEachUnit := by
  intro src fn dst x s right both hv hd
  simp only [← leaving_eq_movedOut]
  exact exec_shift_v8_moved (.lrot src fn dst x) hd hv

/-- Settles O40: LXFEED's fills are the bits the other units lose. -/
theorem lxfeedCrossFeedsTheUnits : Obligations.LxfeedCrossFeedsTheUnits := by
  intro src fn dst x s right both hv hd
  simp only [← leaving_eq_movedOut]
  exact exec_shift_v8_moved (.lxfeed src fn dst x) hd hv

/-- Settles O41: LONEWAY's fills are LXFEED's on the unit that the direction feeds, and 0 on the other. -/
theorem lonewayFeedsOneWay : Obligations.LonewayFeedsOneWay := by
  intro src fn dst x s right both hv hd
  simp only [← leaving_eq_movedOut]
  exact exec_shift_v8_moved (.loneway src fn dst x) hd hv

/-- Settles O42: the four rows deliver the same ALU result, and the router does not read the mode. -/
theorem linkModeIsReadInV8ShiftsAlone : Obligations.LinkModeIsReadInV8ShiftsAlone := by
  intro src fn dst x s h
  have same (m : Link) : Host.Outcome.next (deliver dst m x s (resultOf src fn x s)) = exec (.lnone src fn dst x) s :=
    congrArg _ (deliver_ignores_link h m .lnone x _)
  exact ⟨rfl, same .lrot, same .lxfeed, same .loneway⟩

/-- Settles O46: the step is an idle step, or a compute step whose route drives no boundary pin. -/
theorem boundaryLatchesMoveInV8ShiftsAlone : Obligations.BoundaryLatchesMoveInV8ShiftsAlone := by
  intro s t inv rest hp hstep hclr hno
  rw [step_of_pending hp, hclr, if_neg Bool.false_ne_true, exec_eq_compute, decode_micro] at hstep
  split at hstep
  · next hr =>
    cases hstep
    apply compute_holds_boundary (s := { s with pending := rest })
    cases hv : s.cfg.variant with
    | v4 => exact .inl rfl
    | v8 => exact .inr (Option.not_isSome_iff_eq_none.mp fun hd => hno ⟨hr, hv, hd⟩)
  · cases hstep
    exact ⟨rfl, rfl, rfl, rfl⟩

/-- Settles O50: the two directions have one proof. -/
theorem crossFedShiftsAreInverse : Obligations.CrossFedShiftsAreInverse := by
  intro src src' fn fn' x y s hv hb
  exact ⟨exec_crossFed_back (.lxfeed src fn .srbq x) (.lxfeed src' fn' .slbq y) (right := true) rfl rfl rfl rfl hb hv,
    exec_crossFed_back (.lxfeed src fn .slbq x) (.lxfeed src' fn' .srbq y) (right := false) rfl rfl rfl rfl hb hv⟩

/-- Settles O51, by induction on the number of shifts. -/
theorem repeatedCrossFedShiftsRotateThePair : Obligations.RepeatedCrossFedShiftsRotateThePair :=
  fun src fn x _ n hv => execTimes_crossFed (.lxfeed src fn .srbq x) rfl rfl n hv

end Sys2Proof.Machine
end

section
/-! The cycle controller (spec/44_cycle.md): the clear step and the idle step. The compute step is `step_of_rising_edge`. -/

namespace Sys2Proof.Machine

/-- The clear step (R241): neither the clock edge nor the pins are read. -/
theorem step_of_clear {s : State} {inv : Invocation} {rest : List Invocation} (hp : s.pending = inv :: rest)
    (hclr : inv.clr = true) : step s = .next (State.clear { s with pending := rest }) := by
  rw [step_of_pending hp, if_pos hclr]

/-- The idle step (R243): the invocation is taken off the list. -/
theorem step_of_no_edge {s : State} {inv : Invocation} {rest : List Invocation} (hp : s.pending = inv :: rest)
    (hclr : inv.clr = false) (hrising : inv.rising = false) : step s = .next { s with pending := rest } := by
  rw [step_of_pending hp, hclr, hrising, if_neg Bool.false_ne_true, if_neg Bool.false_ne_true]

/-! ## The statements -/

/-- Settles O3: the step answers the cleared state without the invocation, and what that state holds is `State.clear`'s. -/
theorem clearStepZeroesAndNeverComputes : Obligations.ClearStepZeroesAndNeverComputes := by
  intro s inv rest hp hclr
  exact ⟨_, step_of_clear hp hclr, State.reg_clear _, State.clear_q _, State.clear_out _, State.clear_cfg _,
    State.clear_pending _⟩

/-- Settles O5, by the idle branch of the step. -/
theorem idleStepChangesNothing : Obligations.IdleStepChangesNothing :=
  fun _ _ _ => step_of_no_edge

end Sys2Proof.Machine
end

section
/-! The step where the host makes no invocation (log entry 2). -/

namespace Sys2Proof.Machine

/-- Settles O6, by the model's law of a step with an empty list of invocations. -/
theorem noInvocationNoChange : Obligations.NoInvocationNoChange :=
  fun s hp => step_nil s hp

end Sys2Proof.Machine
end
